-- ==== Sys2Proof/Word.lean ====
section
/-! DEFINITION. The widths the spec names (bytes, 16-bit and 32-bit words) and the complex value of rule R10. -/

namespace Sys2Proof

/-- One byte of a memory space (R82). -/
abbrev Byte := BitVec 8

/-- A 16-bit field or table entry. -/
abbrev Half := BitVec 16

/-- A register of the register map, a command word or a memory address: 32 bits (R21, R81, R110). -/
abbrev Word := BitVec 32

/-- A complex value `(re, im)` of unbounded integers (R8, R10): `c16` and `c32` are this type with both parts inside the
signed 16-bit or 32-bit range. -/
structure Cx where
  re : Int
  im : Int
deriving DecidableEq, Repr, Inhabited

/-- The value `(0, 0)`, used for zero fill (R168, R294). -/
def Cx.zero : Cx := ⟨0, 0⟩

end Sys2Proof
end

