-- ==== Sys2Proof/Syntax.lean ====
section
/-! DEFINITION. The 24 commands of the opcode map (R114), one constructor a row, their sub-fields decoded (R115). -/

namespace Sys2Proof

/-- The `TABLE` field of WIN.GEN (R115). -/
inductive WinTable where
  | win1d
  | win2d
deriving DecidableEq, Repr

/-- The `KIND` field of WIN.GEN (R115). `notAWindow` is the value 3: it decodes, and the command refuses it (R162). -/
inductive WinKind where
  | blackman
  | hanning
  | rectangular
  | notAWindow
deriving DecidableEq, Repr

/-- The commands. An index operand is the number in `IMM`, a channel operand `p` the number in `SEL[3:0]`. -/
inductive Instr where
  /-- `NOP` (R137). -/
  | nop
  /-- `CFG.COMMIT` (R132). -/
  | cfgCommit
  /-- `RUN.START` (R135). -/
  | runStart
  /-- `RUN.STOP` (R136). -/
  | runStop
  /-- `BMP.RESET` (R151). -/
  | bmpReset
  /-- `BMP.SET index` (R152). -/
  | bmpSet (index : Nat)
  /-- `BMP.TEST index` (R153). -/
  | bmpTest (index : Nat)
  /-- `BMP.NEXT` (R154). -/
  | bmpNext
  /-- `WIN.GEN table, kind` (R162). -/
  | winGen (table : WinTable) (kind : WinKind)
  /-- `FFT1D` (R176). -/
  | fft1d
  /-- `FFT2D` (R177). -/
  | fft2d
  /-- `FFT3D` (R178). -/
  | fft3d
  /-- `DMA.CFG p, flags` (R205). -/
  | dmaCfg (p : Nat) (nullSrc nullDst prio ien : Bool)
  /-- `DMA.START p` (R206). -/
  | dmaStart (p : Nat)
  /-- `DMA.RETRIG p` (R208). -/
  | dmaRetrig (p : Nat)
  /-- `DMA.WAIT p` (R209). -/
  | dmaWait (p : Nat)
  /-- `CFAR.DOP` (R255). -/
  | cfarDop
  /-- `CFAR.RNG d` (R256). -/
  | cfarRng (d : Nat)
  /-- `PKGRP.RUN` (R271). -/
  | pkgrpRun
  /-- `ANGLE.OBJ i` (R291). -/
  | angleObj (i : Nat)
  /-- `XY.EST r` (R297). -/
  | xyEst (r : Nat)
  /-- `CHIRP.PROC` (R231). -/
  | chirpProc
  /-- `FRAME.PROC` (R321). -/
  | frameProc
  /-- `OUT.ASM` (R330). -/
  | outAsm
deriving DecidableEq, Repr

end Sys2Proof
end

