-- ==== Sys2Proof/WellFormed.lean ====
section
/-! DEFINITION. Which commands a command word can carry: an index fits the 16 bits of `IMM`, a channel number the 4 bits of
`SEL[3:0]` (R111, R115). A channel number from 12 to 15 is well formed: it decodes, and the command raises the Fatal. -/

namespace Sys2Proof

/-- Every operand fits its field of the command word (R111, R115). -/
def Instr.wellFormed : Instr → Bool
  | .nop | .cfgCommit | .runStart | .runStop | .bmpReset | .bmpNext => true
  | .fft1d | .fft2d | .fft3d | .cfarDop | .pkgrpRun => true
  | .chirpProc | .frameProc | .outAsm => true
  | .winGen _ _ => true
  | .bmpSet i | .bmpTest i | .cfarRng i | .angleObj i | .xyEst i => decide (i < 2 ^ 16)
  | .dmaCfg p _ _ _ _ | .dmaStart p | .dmaRetrig p | .dmaWait p => decide (p < 2 ^ 4)

end Sys2Proof
end

