-- ==== Sys2Proof/Decode.lean ====
section
/-! DEFINITION. Decoding a command word (R111 to R118), total on every 32-bit word and refusing by name, and the encoder
written from the same tables. -/

namespace Sys2Proof

/-- Why a word is no command (R112): both are `CMD_ILLEGAL`. -/
inductive DecodeError where
  /-- `OPC` is not in the table of R114 (R112 step 1). -/
  | unlistedOpcode
  /-- A must-be-zero bit of `SEL` or `IMM` is 1 (R112 step 2). -/
  | reservedBitSet
deriving DecidableEq, Repr

/-- `OPC = w[31:24]` (R111). -/
def opcOf (w : Word) : Nat := w.toNat / 2 ^ 24

/-- `SEL = w[23:16]` (R111). -/
def selOf (w : Word) : Nat := w.toNat / 2 ^ 16 % 2 ^ 8

/-- `IMM = w[15:0]` (R111). -/
def immOf (w : Word) : Nat := w.toNat % 2 ^ 16

/-- Format `Z`: `SEL` and `IMM` are zero (R113). -/
def formatZ (sel imm : Nat) (i : Instr) : Except DecodeError Instr :=
  if sel = 0 ∧ imm = 0 then .ok i else .error .reservedBitSet

/-- Format `I`: `SEL` is zero, `IMM` is the index (R113). -/
def formatI (sel imm : Nat) (i : Nat → Instr) : Except DecodeError Instr :=
  if sel = 0 then .ok (i imm) else .error .reservedBitSet

/-- Format `S`: `IMM` and the bits of `SEL` from `unused` up are zero (R113, R115). -/
def formatS (sel imm unused : Nat) (i : Instr) : Except DecodeError Instr :=
  if sel / 2 ^ unused = 0 ∧ imm = 0 then .ok i else .error .reservedBitSet

/-- `TABLE = SEL[0]` (R115). -/
def tableOf (sel : Nat) : WinTable := if sel % 2 = 0 then .win1d else .win2d

/-- `KIND = SEL[2:1]` (R115). -/
def kindOf (sel : Nat) : WinKind :=
  match sel / 2 % 4 with
  | 0 => .blackman
  | 1 => .hanning
  | 2 => .rectangular
  | _ => .notAWindow

/-- Bit `b` of `SEL`. -/
def selBit (sel b : Nat) : Bool := decide (sel / 2 ^ b % 2 = 1)

/-- `P = SEL[3:0]` (R115). -/
def channelOf (sel : Nat) : Nat := sel % 2 ^ 4

/-- The decoder of R112 over the opcode map of R114. -/
def decode (w : Word) : Except DecodeError Instr :=
  let sel := selOf w
  let imm := immOf w
  match opcOf w with
  | 0x00 => formatZ sel imm .nop
  | 0x01 => formatZ sel imm .cfgCommit
  | 0x02 => formatZ sel imm .runStart
  | 0x03 => formatZ sel imm .runStop
  | 0x10 => formatZ sel imm .bmpReset
  | 0x11 => formatI sel imm .bmpSet
  | 0x12 => formatI sel imm .bmpTest
  | 0x13 => formatZ sel imm .bmpNext
  | 0x20 => formatS sel imm 3 (.winGen (tableOf sel) (kindOf sel))
  | 0x21 => formatZ sel imm .fft1d
  | 0x22 => formatZ sel imm .fft2d
  | 0x23 => formatZ sel imm .fft3d
  | 0x30 => formatS sel imm 8
      (.dmaCfg (channelOf sel) (selBit sel 4) (selBit sel 5) (selBit sel 6) (selBit sel 7))
  | 0x31 => formatS sel imm 4 (.dmaStart (channelOf sel))
  | 0x32 => formatS sel imm 4 (.dmaRetrig (channelOf sel))
  | 0x33 => formatS sel imm 4 (.dmaWait (channelOf sel))
  | 0x40 => formatZ sel imm .cfarDop
  | 0x41 => formatI sel imm .cfarRng
  | 0x50 => formatZ sel imm .pkgrpRun
  | 0x60 => formatI sel imm .angleObj
  | 0x61 => formatI sel imm .xyEst
  | 0x70 => formatZ sel imm .chirpProc
  | 0x71 => formatZ sel imm .frameProc
  | 0x72 => formatZ sel imm .outAsm
  | _ => .error .unlistedOpcode

/-- The `OPC` of each command (R114). -/
def Instr.opcode : Instr → Nat
  | .nop => 0x00
  | .cfgCommit => 0x01
  | .runStart => 0x02
  | .runStop => 0x03
  | .bmpReset => 0x10
  | .bmpSet _ => 0x11
  | .bmpTest _ => 0x12
  | .bmpNext => 0x13
  | .winGen _ _ => 0x20
  | .fft1d => 0x21
  | .fft2d => 0x22
  | .fft3d => 0x23
  | .dmaCfg _ _ _ _ _ => 0x30
  | .dmaStart _ => 0x31
  | .dmaRetrig _ => 0x32
  | .dmaWait _ => 0x33
  | .cfarDop => 0x40
  | .cfarRng _ => 0x41
  | .pkgrpRun => 0x50
  | .angleObj _ => 0x60
  | .xyEst _ => 0x61
  | .chirpProc => 0x70
  | .frameProc => 0x71
  | .outAsm => 0x72

/-- The value of the `TABLE` field (R115). -/
def tableBits : WinTable → Nat
  | .win1d => 0
  | .win2d => 1

/-- The value of the `KIND` field (R115). -/
def kindBits : WinKind → Nat
  | .blackman => 0
  | .hanning => 1
  | .rectangular => 2
  | .notAWindow => 3

/-- The `SEL` field of each command (R113, R115). -/
def Instr.selector : Instr → Nat
  | .winGen t k => tableBits t + 2 * kindBits k
  | .dmaCfg p nullSrc nullDst prio ien =>
    p + 2 ^ 4 * nullSrc.toNat + 2 ^ 5 * nullDst.toNat + 2 ^ 6 * prio.toNat + 2 ^ 7 * ien.toNat
  | .dmaStart p | .dmaRetrig p | .dmaWait p => p
  | .nop | .cfgCommit | .runStart | .runStop | .bmpReset | .bmpSet _ | .bmpTest _ | .bmpNext => 0
  | .fft1d | .fft2d | .fft3d | .cfarDop | .cfarRng _ | .pkgrpRun | .angleObj _ | .xyEst _ => 0
  | .chirpProc | .frameProc | .outAsm => 0

/-- The `IMM` field of each command (R113, R116). -/
def Instr.immediate : Instr → Nat
  | .bmpSet i | .bmpTest i | .cfarRng i | .angleObj i | .xyEst i => i
  | .nop | .cfgCommit | .runStart | .runStop | .bmpReset | .bmpNext | .winGen _ _ => 0
  | .fft1d | .fft2d | .fft3d | .dmaCfg _ _ _ _ _ | .dmaStart _ | .dmaRetrig _ | .dmaWait _ => 0
  | .cfarDop | .pkgrpRun | .chirpProc | .frameProc | .outAsm => 0

/-- The command word of a command: `OPC`, `SEL` and `IMM` side by side (R111). -/
def encode (i : Instr) : Word :=
  BitVec.ofNat 32 (i.opcode * 2 ^ 24 + i.selector * 2 ^ 16 + i.immediate)

/-- The host's question: the command the decoder reads from the table's `nbits` bits `w`; bits above are 0. A command
word has no byte layout of its own: it is one 32-bit write to `CMD` (R110, R118). -/
def decodeTableWord (nbits w : Nat) : Option Instr :=
  match decode (BitVec.ofNat 32 (w % 2 ^ nbits)) with
  | .ok i => some i
  | .error _ => none

end Sys2Proof
end

