-- ==== Sys2Proof/Machine/Arith.lean ====
section
/-! DEFINITION. The integer primitives of R9 and R183, the conversions between integers and stored words (R8, R83), and the
reading and writing of an internal table by index. -/

namespace Sys2Proof.Machine

/-- `rnd_shr(v, s)`: round to nearest, ties toward plus infinity; the plain value for `s = 0` (R9). -/
def rndShr (v : Int) (s : Nat) : Int :=
  if s = 0 then v else (v + 2 ^ (s - 1)) / 2 ^ s

/-- `v` clamped to `[lo, hi]`. -/
def clamp (lo hi v : Int) : Int :=
  if v < lo then lo else if hi < v then hi else v

/-- `sat16` (R9). -/
def sat16 (v : Int) : Int := clamp (-32768) 32767 v

/-- `sat32` (R9). -/
def sat32 (v : Int) : Int := clamp (-2147483648) 2147483647 v

/-- `satu16` (R9). -/
def satu16 (v : Int) : Int := clamp 0 65535 v

/-- `sext_N(v)` of an unsigned `n`-bit number (R8). -/
def sext (n v : Nat) : Int := if v < 2 ^ (n - 1) then v else (v : Int) - 2 ^ n

/-- The low `n` bits of an integer as an unsigned number: the stored form of a signed value (R83, R84). -/
def lowBits (n : Nat) (v : Int) : Nat := (v % 2 ^ n).toNat

/-- The digits of the square root, from bit `b - 1` down: the largest `k ≥ r` of the form `r + (a number below 2^b)` with
`k * k ≤ n`. -/
def isqrtFrom : Nat → Nat → Nat → Nat
  | 0, _, r => r
  | b + 1, n, r => if (r + 2 ^ b) * (r + 2 ^ b) ≤ n then isqrtFrom b n (r + 2 ^ b) else isqrtFrom b n r

/-- `isqrt(n)`: the largest `k` with `k * k ≤ n` (R9). -/
def isqrt (n : Nat) : Nat := isqrtFrom (Nat.log2 n / 2 + 1) n 0

/-- `popcount(v)` of an `n`-bit number (R9). -/
def popcount (n v : Nat) : Nat := ((List.range n).filter fun i => v.testBit i).length

/-- `bitrev_m(i)` (R9). -/
def bitrev : Nat → Nat → Nat
  | 0, _ => 0
  | m + 1, i => (i % 2) * 2 ^ m + bitrev m (i / 2)

/-- `v` is a power of two. -/
def isPow2 (v : Nat) : Bool := v != 0 && v == 2 ^ Nat.log2 v

/-- The least power of two not less than `v` (R35). -/
def nextPow2 (v : Nat) : Nat := if isPow2 v then v else 2 ^ (Nat.log2 v + 1)

/-- The little-endian number of a list of bytes (R83). -/
def leNat : List Byte → Nat
  | [] => 0
  | b :: bs => b.toNat + 256 * leNat bs

/-- The low `n` bytes of a number, lowest first (R83). -/
def leBytes : Nat → Nat → List Byte
  | 0, _ => []
  | n + 1, v => BitVec.ofNat 8 v :: leBytes n (v / 256)

/-- Entry `i` of a table; `d` beyond its end. -/
def tabGet {α : Type} {n : Nat} (t : Vector α n) (i : Nat) (d : α) : α := t.toList.getD i d

/-- The table with entry `i` replaced; unchanged beyond its end. -/
def tabSet {α : Type} {n : Nat} (t : Vector α n) (i : Nat) (x : α) : Vector α n := t.setIfInBounds i x

/-- Element `i` of a list; `d` beyond its end. -/
def listGet {α : Type} (l : List α) (i : Nat) (d : α) : α := l.getD i d

/-- A flag as a register bit at position `b`. -/
def bitAt (b : Nat) (f : Bool) : Nat := if f then 2 ^ b else 0

/-- Bit `b` of a register as a flag. -/
def flagAt (w : Word) (b : Nat) : Bool := w.getLsbD b

end Sys2Proof.Machine
end

