-- ==== Sys2Proof/Config.lean ====
section
/-! DEFINITION. The implementation parameters of R7 that the spec fixes, and the free values: every value the spec leaves
open is an opaque constant here, so that no proof can see it. The four capacities of R7, open too, are in State. -/

namespace Sys2Proof.Config

/-- Most receive antennas (R7). -/
abbrev maxRxAnt : Nat := 4
/-- Most transmit antennas (R7). -/
abbrev maxTxAnt : Nat := 2
/-- Smallest `numRangeBins` and `numDopplerBins` (R7). -/
abbrev minFftSize : Nat := 16
/-- Largest `numRangeBins` and `numDopplerBins` (R7). -/
abbrev maxFftSize : Nat := 1024
/-- The fixed azimuth FFT size `Na` (R7). -/
abbrev numAngleBins : Nat := 64
/-- Capacity of the raw candidate list (R7). -/
abbrev maxRawObj : Nat := 200
/-- Capacity of the output object list (R7). -/
abbrev maxObjOut : Nat := 100
/-- Most bins of the DC-signature window (R7). -/
abbrev dcMaxBins : Nat := 32
/-- Physical DMA channels: six logical channels of two slots (R7, R203). -/
abbrev numDmaPhys : Nat := 12

/-- FREE VALUE. What a byte of memory holds before anything has written it, by address: "unspecified" (R391, U4). -/
opaque powerUpByte : Nat → Byte

/-- FREE VALUE. What a read that breaks the ownership rule returns (R101, U5), by step and address. -/
opaque raceRead : Nat → Nat → Byte

/-- FREE VALUE. What a byte holds after two racing writers (R101, U5), by step and address. -/
opaque raceWrite : Nat → Nat → Byte

/-- FREE VALUE. Which of the old and new values of `ARG[i]` a command sees when the host wrote it while the block was busy
(R26, U7), by step and `i`. -/
opaque argChoice : Nat → Nat → Nat

/-- FREE VALUE. Which of the old and new values a host read of `RES` or of a table sees while the block is busy (R58, R403, U7),
by step and offset. -/
opaque busyChoice : Nat → Nat → Nat

/-- FREE VALUE. The implementation-defined statistics words 5 to 7 (R333, U8), by step and word number. -/
opaque statsWord : Nat → Nat → Word

/-- FREE VALUE. An entry of a table that the spec leaves unspecified, by step and register offset: after a reset event (R390,
U4), or at or above its list's count (R52, R53). -/
opaque unspecified : Nat → Nat → Word

/-- FREE VALUE. Which of the block's own agents moves next when the environment has named none (R4, R100, U6, U12), by
step. -/
opaque nextAgent : Nat → Nat

end Sys2Proof.Config
end

