-- ==== Sys2Proof/Machine/State.lean ====
section
/-! DEFINITION. The state of the block as plain data (R20, R55), its reasons to stop, and the state after reset (R390).
A register is held as the fields its rule names, each at its own width, so that a reserved bit can hold nothing (R21). -/

namespace Sys2Proof.Machine

/-- `STATUS.MODE` (R30, R131). -/
inductive Mode where
  | unconfigured
  | configured
  | running
  | halted
deriving DecidableEq, Repr

/-- The fault codes of R353. -/
inductive FaultCode where
  | cfgInvalid
  | cfgCfarMode
  | cfgLayout
  | cfgWindow
  | timingChirp
  | timingFrame
  | dmaConfig
  | dmaProtocol
  | dmaError
  | bitmapExhausted
  | badIndex
  | cmdIllegal
  | cmdMode
  | cmdOverrun
  | cmdOperand
  | memBounds
  | memAlign
deriving DecidableEq, Repr

/-- What `raise Fatal(code, info)` carries (R352). -/
structure Fatal where
  code : FaultCode
  info : Nat
deriving DecidableEq, Repr

/-- The register `FAULT` (R32). -/
structure FaultReg where
  /-- `CODE`, bits 7:0; 0 when no Fatal has happened. -/
  code : Byte
  /-- `INFO`, bits 31:8. -/
  info : BitVec 24
deriving DecidableEq, Repr

/-- One direction's CFAR configuration registers (R38). -/
structure CfarCfg where
  /-- `AVG_MODE`, bits 1:0: 0 CA, 1 CAGO, 2 CASO, 3 unsupported. -/
  avgMode : BitVec 2
  /-- `CYCLIC`, bit 2. -/
  cyclic : Bool
  /-- `NOISE_DIV_SHIFT`, bits 7:4. -/
  noiseDivShift : BitVec 4
  /-- `GUARD_LEN`, bits 15:8. -/
  guardLen : BitVec 8
  /-- `WIN_LEN`, bits 23:16. -/
  winLen : BitVec 8
  /-- `THRESHOLD`, bits 15:0 of the `_THR` register. -/
  threshold : Half
deriving DecidableEq, Repr

/-- The configuration fields of R35 to R42 and R46: the staging registers, and the active copy with one field per staging
field (R31). -/
structure Cfg where
  /-- `NUM_RX_ANT`, bits 2:0 (R35). -/
  numRx : BitVec 3
  /-- `NUM_TX_ANT`, bits 1:0 (R35). -/
  numTx : BitVec 2
  /-- `NUM_ADC_SAMPLES`, bits 10:0 (R35). -/
  numAdc : BitVec 11
  /-- `NUM_RANGE_BINS`, bits 10:0 (R35). -/
  numRange : BitVec 11
  /-- `NUM_DOPPLER_BINS`, bits 10:0 (R35). -/
  numDop : BitVec 11
  /-- `RANGE_RES`, metres with 20 fraction bits (R37). -/
  rangeRes : Word
  /-- `XYZ_QFORMAT`, bits 3:0 (R37). -/
  xyzQ : BitVec 4
  /-- `CFAR_RNG_CFG` and `CFAR_RNG_THR` (R38). -/
  cfarRng : CfarCfg
  /-- `CFAR_DOP_CFG` and `CFAR_DOP_THR` (R38). -/
  cfarDop : CfarCfg
  /-- `PKGRP_CFG.SCHEME`, bit 0: false for 0, the detection-matrix scheme (R39). -/
  pkScheme : Bool
  /-- `PKGRP_CFG.EN_RANGE`, bit 1 (R39). -/
  pkRange : Bool
  /-- `PKGRP_CFG.EN_DOPPLER`, bit 2 (R39). -/
  pkDoppler : Bool
  /-- `PKGRP_RANGE.MIN_RANGE_IDX`, bits 15:0 (R39). -/
  pkMin : Half
  /-- `PKGRP_RANGE.MAX_RANGE_IDX`, bits 31:16 (R39). -/
  pkMax : Half
  /-- `MOB_CFG.ENABLE`, bit 0 (R40). -/
  mobEnable : Bool
  /-- `MOB_CFG.THRESH`, bits 31:16, 15 fraction bits (R40). -/
  mobThresh : Half
  /-- `DCCAL_CFG.ENABLE`, bit 0 (R41). -/
  dcEnable : Bool
  /-- `DCCAL_CFG.NUM_AVG_CHIRPS`, bits 31:16 (R41). -/
  dcAvg : Half
  /-- `DCCAL_BINS.NEG_BIN_IDX`, bits 15:0, signed (R41). -/
  dcNeg : Half
  /-- `DCCAL_BINS.POS_BIN_IDX`, bits 31:16 (R41). -/
  dcPos : Half
  /-- `MON_SEL`, bits 4:0 (R42). -/
  monSel : BitVec 5
  /-- `BUF_BASE[k]` (R46). -/
  bufBase : Vector Word 18
deriving DecidableEq, Repr

/-- The descriptor of a channel (R204): the registers `SRC`, `DST`, `SIZE`, `SSTRIDE`, `DSTRIDE` of R47. -/
structure Descr where
  src : Word
  dst : Word
  /-- `SIZE.ESIZE`, bits 15:0. -/
  esize : Half
  /-- `SIZE.ECOUNT`, bits 31:16. -/
  ecount : Half
  sstride : Word
  dstride : Word
deriving DecidableEq, Repr, Inhabited

/-- The transfer of a channel: `STAT.BUSY` and `STAT.DONE` (R47), which are never both 1 (R207 check 4, R209, R210), with
the snapshot of R55 (a), kept until the completion is consumed because the ownership of R101 lasts that long. -/
inductive Xfer where
  /-- `BUSY = 0`, `DONE = 0`. -/
  | idle
  /-- `BUSY = 1`: started and not yet performed. -/
  | busy (d : Descr)
  /-- `DONE = 1`: performed, the completion not yet consumed. -/
  | done (d : Descr)
deriving DecidableEq, Repr, Inhabited

/-- One physical channel (R47). -/
structure Chan where
  desc : Descr
  /-- `CTL.PRIO`, bit 0. -/
  prio : Bool
  /-- `CTL.IEN`, bit 1. -/
  ien : Bool
  /-- `CTL.SRC_BOUND`, bit 2. -/
  srcBound : Bool
  /-- `CTL.DST_BOUND`, bit 3. -/
  dstBound : Bool
  /-- `STAT.CONFIGURED`, bit 0. -/
  configured : Bool
  xfer : Xfer
deriving DecidableEq, Repr, Inhabited

/-- `WINt_INFO` and `WINt_ONEQ` (R49). -/
structure WinInfo where
  /-- `LEN`, bits 10:0. -/
  len : BitVec 11
  /-- `GEN`, bits 26:16. -/
  gen : BitVec 11
  /-- `VALID`, bit 31. -/
  valid : Bool
  oneQ : Word
deriving DecidableEq, Repr

/-- An entry of `DCSUM` (R51). -/
structure C32 where
  re : Word
  im : Word
deriving DecidableEq, Repr, Inhabited

/-- An entry of `RAWOBJ` (R52). -/
structure RawObj where
  range : Half
  doppler : Half
  peak : Half
deriving DecidableEq, Repr, Inhabited

/-- An entry of `OBJOUT` (R53); word 3 is reserved and reads 0. -/
structure ObjOut where
  range : Half
  doppler : Half
  peak : Half
  x : Half
  y : Half
  z : Half
deriving DecidableEq, Repr, Inhabited

/-- An entry of `OUTDESC` (R54). -/
structure OutDesc where
  type : Word
  length : Word
  address : Word
deriving DecidableEq, Repr, Inhabited

/-- The numbered steps of the per-chirp sequence (R232), with the points inside a step at which a `DmaWait` may block. -/
inductive ChirpPos where
  | s1
  | s2
  | s3
  | s4 (rx : Nat)
  /-- Step 4 after its wait. -/
  | s4body (rx : Nat)
  | s5
  | s6
  | s7
  | s8
  /-- Step 8 after its first wait. -/
  | s8second
  /-- Step 8 after both waits. -/
  | s8set
  | s9
deriving DecidableEq, Repr

/-- The numbered steps of the inter-frame sequence (R322), with the points inside a step at which a `DmaWait` may block. -/
inductive FramePos where
  | s1
  /-- Step 2 before its loop (R323). -/
  | s2start
  | s2 (idx : Nat)
  /-- An item of step 2 after its fetch. -/
  | s2body (idx : Nat)
  /-- The end of a range bin after its wait (R325). -/
  | s2tail (idx : Nat)
  | s3
  /-- Step 3 after its first wait. -/
  | s3second
  /-- Step 4 before its loop (R326). -/
  | s4start
  | s4 (j : Nat)
  /-- A line of step 4 after its fetch. -/
  | s4body (j : Nat)
  | s5
  /-- Step 6 before its loop. -/
  | s6start
  | s6 (i : Nat)
  /-- An object of step 6 after its fetch. -/
  | s6body (i : Nat)
  | s7
  | s8
deriving DecidableEq, Repr

/-- A position of the sequencer inside a command or sequence. `byCmd` says that a host command started the sequence, so
that its end is a command completion (R231, R321). -/
inductive Pos where
  /-- Stage 5 of R130, after the wait of DMA.WAIT. -/
  | complete
  /-- RUN.STOP, its loop at channel `p` (R136). -/
  | stop (p : Nat)
  /-- ANGLE.OBJ `i`, after its fetch (R291). -/
  | angle (i : Nat)
  | chirp (q : ChirpPos) (byCmd : Bool)
  | frame (q : FramePos) (byCmd : Bool)
deriving DecidableEq, Repr

/-- The sequencer position `SEQ` (R25). -/
inductive Seq where
  | idle
  /-- `CMD(w)`: the accepted command word, not yet executed. -/
  | cmd (w : Word)
  /-- Inside a command or a sequence, at `q`. -/
  | pos (q : Pos)
  /-- `WAIT(p, resume)`. -/
  | wait (p : Nat) (resume : Pos)
  | halt
deriving DecidableEq, Repr

/-- The scratch of the per-chirp sequence (R232 steps 1 and 7; R55 (c)). -/
structure ChirpScratch where
  c : Nat
  tx : Nat
  d : Nat
  acc : Bool
  sub : Bool
  last : Bool
deriving DecidableEq, Repr

/-- The scratch of the inter-frame sequence (R323, R326, R322 step 6; R55 (c)). -/
structure FrameScratch where
  acc : List Nat
  lines : Nat
  dcur : Nat
  n0 : Nat
deriving DecidableEq, Repr

/-- One step of one agent (R4): what the environment chooses or does next. -/
inductive Action where
  /-- The sequencer moves. -/
  | seq
  /-- The transfer agent of physical channel `p` moves (R210). -/
  | dma (p : Nat)
  /-- A register-bus read (R21). -/
  | regRead (off : Nat)
  /-- A register-bus write (R21); a write of `CMD` is a command (R28). -/
  | regWrite (off : Nat) (v : Word)
  /-- The host reads `n` bytes through its memory port (R82). -/
  | memRead (addr : Word) (n : Nat)
  /-- The host, or the front end for the ADC space, writes bytes (R82, R95). -/
  | memWrite (addr : Word) (bytes : List Byte)
  /-- A chirp-available event on `chirp_avail` (R357). -/
  | chirp
  /-- An event on `rst` (R390). -/
  | reset
deriving DecidableEq, Repr

/-- Bytes of a result buffer, from `base` up. -/
structure Shown where
  /-- The number of the buffer (R88). -/
  buf : Nat
  /-- The address of the first byte. -/
  base : Nat
  /-- How many bytes. -/
  size : Nat
deriving DecidableEq, Repr

/-- Which results the host may read (R102, R337, R405): those a frame has published and the block has not begun to rewrite. -/
structure Window where
  /-- The bytes of the result buffers, where they stood when they were published. -/
  shown : List Shown
  /-- `RAWOBJ`. -/
  raw : Bool
  /-- `OBJOUT`. -/
  objs : Bool
deriving DecidableEq, Repr

/-- No result readable: no frame has been published. -/
def Window.closed : Window := ⟨[], false, false⟩

/-- The tables that a sequence writes step by step (R58), with the counts of the two lists. -/
structure Tables where
  /-- `BMP_WORD`. -/
  bmpWord : Vector Word 32
  /-- `DCSUM`. -/
  dcSum : Vector C32 256
  /-- `RAWOBJ`. -/
  rawObj : Vector RawObj 200
  /-- `OBJOUT`. -/
  objOut : Vector ObjOut 100
  /-- `NUM_RAW_OBJ`. -/
  numRawObj : Word
  /-- `NUM_OBJ_OUT`. -/
  numObjOut : Word
deriving DecidableEq, Repr

/-- Every entry and count 0. -/
def Tables.zero : Tables :=
  ⟨Vector.replicate 32 0, Vector.replicate 256 ⟨0, 0⟩, Vector.replicate 200 ⟨0, 0, 0⟩, Vector.replicate 100 ⟨0, 0, 0, 0, 0, 0⟩, 0, 0⟩

/-- The capacities `TIER_A_BYTES`, `TIER_B_BYTES`, `TIER_C_BYTES`, `ADCBUF_BYTES` (R7), in units of 8 bytes: each is a
multiple of 8 and at most `2^30`. They are parameters of an instance, written by no step. -/
structure Spaces where
  tierA : Fin (2 ^ 27 + 1)
  tierB : Fin (2 ^ 27 + 1)
  tierC : Fin (2 ^ 27 + 1)
  adcBuf : Fin (2 ^ 27 + 1)
deriving DecidableEq, Repr

/-- The four memory spaces (R80) under their 32-bit addresses (R81): the bytes something has written, addresses strictly
rising. An address not listed has no value of its own; a read of it answers a free value (`Config.powerUpByte`). -/
abbrev Memory := List Host.Cell

/-- The canonical form of a memory: addresses strictly rising. -/
def Memory.wf : Memory → Bool
  | [] => true
  | [_] => true
  | x :: y :: m => decide (x.1 < y.1) && Memory.wf (y :: m)

/-- The state of the block. -/
structure State where
  /-- `STATUS.MODE` (R30). -/
  mode : Mode
  /-- `SEQ` (R25), and with it `STATUS.BUSY`, `WAITING` and `SEQ_STATE` (R30). -/
  seq : Seq
  /-- `FAULT` (R32). -/
  fault : FaultReg
  /-- `CHIRP_TOKEN` (R36). -/
  chirpToken : Bool
  /-- `FRAME_TOKEN` (R36). -/
  frameToken : Bool
  /-- `CTRL.WAIT_MODE` (R29). -/
  waitMode : Bool
  /-- `IRQ_STATUS` (R33). -/
  irqStatus : Word
  /-- `IRQ_ENABLE` (R33). -/
  irqEnable : Word
  /-- `LOGBUF.AVAIL` (R34). -/
  logAvail : Bool
  /-- `ARG[0..5]` (R26). -/
  arg : Vector Word 6
  /-- THE MODEL'S OWN: the values each `ARG` register held earlier since the running command was accepted (R26, U7). -/
  argPast : Vector (List Word) 6
  /-- `RES[0]` (R27). -/
  res0 : Word
  /-- `RES[1]` (R27). -/
  res1 : Word
  /-- The staging configuration (R31). -/
  stg : Cfg
  /-- The active configuration (R31), hidden. -/
  act : Cfg
  /-- `NUM_VIRT_ANT` (R35). -/
  numVirtAnt : Word
  /-- `CHIRPS_PER_FRAME` (R35). -/
  chirpsPerFrame : Word
  /-- `CHIRP_COUNT` (R43). -/
  chirpCount : BitVec 12
  /-- `TX_ANT_COUNT` (R43). -/
  txAntCount : BitVec 2
  /-- `DOPPLER_BIN_COUNT` (R43). -/
  dopBinCount : BitVec 11
  /-- `DCCAL_COUNT` (R44). -/
  dcCount : BitVec 17
  /-- `FRAME_COUNT` (R45). -/
  frameCount : Word
  /-- `NUM_RAW_OBJ` (R45). -/
  numRawObj : Word
  /-- `NUM_OBJ_OUT` (R45). -/
  numObjOut : Word
  /-- `DROPPED_FRAMES` (R45). -/
  droppedFrames : Word
  /-- `RAW_TRUNC_COUNT` (R45). -/
  rawTruncCount : Word
  /-- `OBJ_TRUNC_COUNT` (R45). -/
  objTruncCount : Word
  /-- `NUM_OUTDESC` (R54). -/
  numOutDesc : Word
  /-- `WIN1D[0..511]` (R49). -/
  win1d : Vector Half 512
  /-- `WIN1D_INFO`, `WIN1D_ONEQ` (R49). -/
  win1dInfo : WinInfo
  /-- `WIN2D[0..511]` (R49). -/
  win2d : Vector Word 512
  /-- `WIN2D_INFO`, `WIN2D_ONEQ` (R49). -/
  win2dInfo : WinInfo
  /-- `BMP_WORD[0..31]` (R48). -/
  bmpWord : Vector Word 32
  /-- `BMP_CURSOR` (R48). -/
  bmpCursor : BitVec 11
  /-- `DCSUM[0..255]` (R51). -/
  dcSum : Vector C32 256
  /-- `RAWOBJ[0..199]` (R52). -/
  rawObj : Vector RawObj 200
  /-- `OBJOUT[0..99]` (R53). -/
  objOut : Vector ObjOut 100
  /-- `OUTDESC[0..5]` (R54). -/
  outDesc : Vector OutDesc 6
  /-- `DMA[0..11]` (R47) and the in-flight transfers (R55 (a)). -/
  dma : Vector Chan 12
  /-- Scratch of the per-chirp sequence (R55 (b), (c)). -/
  chirpScr : ChirpScratch
  /-- Scratch of the inter-frame sequence (R55 (b), (c)). -/
  frameScr : FrameScratch
  /-- The four memory spaces (R80). -/
  mem : Memory
  /-- The capacities of the four spaces (R7): parameters. -/
  spaces : Spaces
  /-- THE MODEL'S OWN: `(p, a)` when another agent wrote the byte at `a` while the started transfer of channel `p` owned it
  (R101, U5). -/
  raced : List (Nat × Nat)
  /-- THE MODEL'S OWN: the bytes of the ADC space overwritten since the event of the chirp in progress, in breach of R95 and
R404. -/
  lateSamples : List Nat
  /-- THE MODEL'S OWN: the tables as they were when the running or last sequence began (R58, U7). -/
  before : Tables
  /-- THE MODEL'S OWN: which results the host may read (R102). -/
  window : Window
  /-- THE MODEL'S OWN: the steps the environment has chosen, the next first (R4). -/
  agenda : List Action
  /-- THE MODEL'S OWN: the number of steps taken, which names the free values. -/
  tick : Nat
  /-- THE MODEL'S OWN: what the last register-bus read returned (R21). -/
  busData : Word
  /-- THE MODEL'S OWN: what the last host memory read returned (R82). -/
  memData : List Byte
deriving DecidableEq, Repr

/-- The reasons a step of the model stops. No command has one: what the block itself refuses is its `Fatal` (R352), an
exception the model takes. -/
inductive Fault where
  /-- Raised by a host memory-port access to bytes the port does not reach: outside a space's capacity (R81), or a read of
  the ADC space, which the host only writes (R82). The spec gives no effect for it. Safe: the model stops. -/
  | hostMemoryPort
deriving DecidableEq, Repr

/-- The reasons the model has no meaning. -/
inductive Refusal where
  /-- An instruction that has no meaning yet; raised by `exec` alone. Safe: the model stops. -/
  | notModelled (mnemonic : String)
deriving DecidableEq, Repr

/-- Every field of a CFAR pair 0. -/
def CfarCfg.zero : CfarCfg := ⟨0, false, 0, 0, 0, 0⟩

/-- Every configuration field 0 (R22, R390 (6)). -/
def Cfg.zero : Cfg where
  numRx := 0
  numTx := 0
  numAdc := 0
  numRange := 0
  numDop := 0
  rangeRes := 0
  xyzQ := 0
  cfarRng := CfarCfg.zero
  cfarDop := CfarCfg.zero
  pkScheme := false
  pkRange := false
  pkDoppler := false
  pkMin := 0
  pkMax := 0
  mobEnable := false
  mobThresh := 0
  dcEnable := false
  dcAvg := 0
  dcNeg := 0
  dcPos := 0
  monSel := 0
  bufBase := Vector.replicate 18 0

/-- A descriptor with every register 0. -/
def Descr.zero : Descr := ⟨0, 0, 0, 0, 0, 0⟩

/-- A channel with every register 0: not configured, not busy, not done (R390 (5)). -/
def Chan.zero : Chan := ⟨Descr.zero, false, false, false, false, false, .idle⟩

/-- A window table's registers at 0: not valid (R390 (8)). -/
def WinInfo.zero : WinInfo := ⟨0, 0, false, 0⟩

/-- The state after reset (R390, R391). The table entries the spec leaves unspecified, the model's own fields and the
capacities hold the values the assumption log names (DESIGN CHOICE). -/
def State.reset : State where
  mode := .unconfigured
  seq := .idle
  fault := ⟨0, 0⟩
  chirpToken := false
  frameToken := false
  waitMode := false
  irqStatus := 0
  irqEnable := 0
  logAvail := false
  arg := Vector.replicate 6 0
  argPast := Vector.replicate 6 []
  res0 := 0
  res1 := 0
  stg := Cfg.zero
  act := Cfg.zero
  numVirtAnt := 0
  chirpsPerFrame := 0
  chirpCount := 0
  txAntCount := 0
  dopBinCount := 0
  dcCount := 0
  frameCount := 0
  numRawObj := 0
  numObjOut := 0
  droppedFrames := 0
  rawTruncCount := 0
  objTruncCount := 0
  numOutDesc := 0
  win1d := Vector.replicate 512 0
  win1dInfo := WinInfo.zero
  win2d := Vector.replicate 512 0
  win2dInfo := WinInfo.zero
  bmpWord := Vector.replicate 32 0
  bmpCursor := 0
  dcSum := Vector.replicate 256 ⟨0, 0⟩
  rawObj := Vector.replicate 200 ⟨0, 0, 0⟩
  objOut := Vector.replicate 100 ⟨0, 0, 0, 0, 0, 0⟩
  outDesc := Vector.replicate 6 ⟨0, 0, 0⟩
  dma := Vector.replicate 12 Chan.zero
  chirpScr := ⟨0, 0, 0, false, false, false⟩
  frameScr := ⟨[], 0, 0, 0⟩
  mem := []
  spaces := ⟨⟨2 ^ 27, by decide⟩, ⟨2 ^ 27, by decide⟩, ⟨2 ^ 27, by decide⟩, ⟨2 ^ 27, by decide⟩⟩
  raced := []
  lateSamples := []
  before := Tables.zero
  window := Window.closed
  agenda := []
  tick := 0
  busData := 0
  memData := []

end Sys2Proof.Machine
end

