-- ==== Sys2Proof/Machine/Flags.lean ====
section
/-! DEFINITION. The status flags (R56): the fields of `STATUS` (R30), the bits of `IRQ_STATUS` (R33, R360) and the output
`irq` (R361). The block has no arithmetic condition codes: no command sets a carry, zero, sign or overflow flag. -/

namespace Sys2Proof.Machine

/-- `STATUS.BUSY`: 1 while `SEQ` is neither `IDLE` nor `HALT` (R30). -/
def Seq.busy : Seq → Bool
  | .idle | .halt => false
  | .cmd _ | .pos _ | .wait _ _ => true

/-- `STATUS.WAITING`: 1 while `SEQ = WAIT(p, _)` (R30). -/
def Seq.waiting : Seq → Bool
  | .wait _ _ => true
  | .idle | .halt | .cmd _ | .pos _ => false

/-- The value of `SEQ_STATE` that a position belongs to (R30). -/
def Pos.seqState : Pos → Nat
  | .complete | .stop _ | .angle _ => 1
  | .chirp _ _ => 2
  | .frame _ _ => 3

/-- `STATUS.SEQ_STATE` (R30). -/
def Seq.seqState : Seq → Nat
  | .idle => 0
  | .cmd _ => 1
  | .pos q => q.seqState
  | .wait _ q => q.seqState
  | .halt => 4

/-- The number of a mode in `STATUS.MODE` (R30). -/
def Mode.num : Mode → Nat
  | .unconfigured => 0
  | .configured => 1
  | .running => 2
  | .halted => 3

/-- `STATUS` as the host reads it (R30). -/
def State.statusReg (s : State) : Word :=
  BitVec.ofNat 32 (s.mode.num + bitAt 4 s.seq.busy + bitAt 5 s.seq.waiting + bitAt 8 s.chirpToken
    + bitAt 9 s.frameToken + 2 ^ 12 * s.seq.seqState)

/-- The number of a fault code in `FAULT.CODE` (R353). -/
def FaultCode.num : FaultCode → Byte
  | .cfgInvalid => 0x01
  | .cfgCfarMode => 0x02
  | .cfgLayout => 0x03
  | .cfgWindow => 0x04
  | .timingChirp => 0x10
  | .timingFrame => 0x11
  | .dmaConfig => 0x20
  | .dmaProtocol => 0x21
  | .dmaError => 0x22
  | .bitmapExhausted => 0x30
  | .badIndex => 0x31
  | .cmdIllegal => 0x40
  | .cmdMode => 0x41
  | .cmdOverrun => 0x42
  | .cmdOperand => 0x43
  | .memBounds => 0x50
  | .memAlign => 0x51

/-- `FAULT` as the host reads it (R32). -/
def State.faultReg (s : State) : Word := BitVec.ofNat 32 (s.fault.code.toNat + 2 ^ 8 * s.fault.info.toNat)

/-- Bit number of `FRAME_DONE` (R33). -/
def irqFrameDone : Nat := 0
/-- Bit number of `FAULT` (R33). -/
def irqFault : Nat := 1
/-- Bit number of `CMD_DONE` (R33). -/
def irqCmdDone : Nat := 2
/-- Bit number of `FRAME_DROPPED` (R33). -/
def irqFrameDropped : Nat := 3
/-- Bit number of `DMA_DONE[p]` (R33). -/
def irqDmaDone (p : Nat) : Nat := 16 + p

/-- The bits `IRQ_STATUS` and `IRQ_ENABLE` have (R33); the others are reserved. -/
def irqMask : Word := 0x0FFF000F

/-- Setting bit `b` of `IRQ_STATUS`; a reserved bit holds nothing (R33, R21). -/
def State.raiseIrq (s : State) (b : Nat) : State :=
  { s with irqStatus := s.irqStatus ||| (BitVec.ofNat 32 (2 ^ b) &&& irqMask) }

/-- Writing 1 to bits of `IRQ_STATUS` clears them (R33). -/
def State.clearIrq (s : State) (w : Word) : State := { s with irqStatus := s.irqStatus &&& ~~~w }

/-- The interrupt output: 1 exactly when an enabled source is pending (R33, R361). -/
def State.irq (s : State) : Bool := decide (s.irqStatus &&& s.irqEnable ≠ 0)

/-- `DMA[p].STAT.BUSY` (R47). -/
def Xfer.isBusy : Xfer → Bool
  | .busy _ => true
  | .idle | .done _ => false

/-- `DMA[p].STAT.DONE` (R47). -/
def Xfer.isDone : Xfer → Bool
  | .done _ => true
  | .idle | .busy _ => false

/-- Neither `BUSY` nor `DONE`. -/
def Xfer.isIdle : Xfer → Bool
  | .idle => true
  | .busy _ | .done _ => false

end Sys2Proof.Machine
end

