-- ==== Sys2Proof/Machine/Ops.lean ====
section
/-! DEFINITION. The named operations over registers and memory: the short names of R13, the bounds and alignment of memory
accesses (R81 to R86), ownership and races (R101), taking a Fatal (R352) and the reset that alone leaves it (R390), and the
frame every command runs in (R130). -/

namespace Sys2Proof.Machine

/-! ## The active geometry (R13) -/

/-- `Nrx` of the active configuration (R13). -/
def State.nrx (s : State) : Nat := s.act.numRx.toNat
/-- `Ntx` (R13). -/
def State.ntx (s : State) : Nat := s.act.numTx.toNat
/-- `Nv = Nrx * Ntx` (R13). -/
def State.nv (s : State) : Nat := s.nrx * s.ntx
/-- `Ns` (R13). -/
def State.ns (s : State) : Nat := s.act.numAdc.toNat
/-- `Nr` (R13). -/
def State.nr (s : State) : Nat := s.act.numRange.toNat
/-- `Nd` (R13). -/
def State.nd (s : State) : Nat := s.act.numDop.toNat
/-- `Ncf = Nd * Ntx` (R13). -/
def State.ncf (s : State) : Nat := s.nd * s.ntx

/-! ## Channels (R47) -/

/-- The registers of physical channel `p`; of a channel that does not exist, zeros. -/
def State.chan (s : State) (p : Nat) : Chan := tabGet s.dma p Chan.zero

/-- Writing the registers of physical channel `p`. -/
def State.setChan (s : State) (p : Nat) (c : Chan) : State := { s with dma := tabSet s.dma p c }

/-- The least channel of the list with a property. -/
def State.leastChan (s : State) (bad : Chan → Bool) (ps : List Nat) : Option Nat :=
  ps.find? fun p => bad (s.chan p)

/-! ## Memory as data -/

/-- The byte something has written at an address. -/
def Memory.get : Memory → Nat → Option Byte
  | [], _ => none
  | c :: m, a => if c.1 = a then some c.2 else Memory.get m a

/-- Storing a byte, keeping the addresses strictly rising. -/
def Memory.set : Memory → Nat → Byte → Memory
  | [], a, b => [(a, b)]
  | c :: m, a, b =>
    if a < c.1 then (a, b) :: c :: m
    else if a = c.1 then (a, b) :: m
    else c :: Memory.set m a b

/-- The tier of an address, `addr[31:30]` (R81). -/
def tierOf (addr : Nat) : Nat := addr / 2 ^ 30

/-- The offset inside the tier, `addr[29:0]` (R81). -/
def offsetOf (addr : Nat) : Nat := addr % 2 ^ 30

/-- The capacity of a space in bytes (R7, R81). -/
def Spaces.capacity (c : Spaces) (tier : Nat) : Nat :=
  match tier with
  | 0 => 8 * c.tierA.val
  | 1 => 8 * c.tierB.val
  | 2 => 8 * c.tierC.val
  | 3 => 8 * c.adcBuf.val
  | _ => 0

/-- An access of `n` bytes by the sequencer or the DMA engine is admitted (R86). -/
def Spaces.admits (c : Spaces) (write : Bool) (addr n : Nat) : Bool :=
  decide (offsetOf addr + n ≤ c.capacity (tierOf addr)) && decide (tierOf addr < 4) && !(write && tierOf addr == 3)

/-! ## Ownership (R101) -/

/-- Who makes an access (R82). -/
inductive Agent where
  | sequencer
  | host
  | channel (p : Nat)
deriving DecidableEq, Repr

/-- Address `a` lies in one of the ranges `[base + e*stride, base + e*stride + esize)`, `e < ecount` (R204): it is enough to
look at the last range that starts at or below it. -/
def covers (base esize ecount stride a : Nat) : Bool :=
  decide (0 < ecount) && decide (base ≤ a) && decide (a - base - min ((a - base) / stride) (ecount - 1) * stride < esize)

/-- `a` is in the source footprint of a descriptor (R204). -/
def Descr.readsAt (d : Descr) (a : Nat) : Bool :=
  covers d.src.toNat d.esize.toNat d.ecount.toNat d.sstride.toNat a

/-- `a` is in the destination footprint of a descriptor (R204). -/
def Descr.writesAt (d : Descr) (a : Nat) : Bool :=
  covers d.dst.toNat d.esize.toNat d.ecount.toNat d.dstride.toNat a

/-- A started transfer whose completion is not consumed owns `a` for writing (R101). -/
def Xfer.ownsWrite : Xfer → Nat → Bool
  | .idle, _ => false
  | .busy d, a => d.writesAt a
  | .done d, a => d.writesAt a

/-- A transfer not yet performed will read or write `a`. -/
def Xfer.awaits : Xfer → Nat → Bool
  | .idle, _ => false
  | .busy d, a => d.readsAt a || d.writesAt a
  | .done _, _ => false

/-- Another agent's transfer owns `a` for writing, so that an access of `who` is a race (R101). -/
def State.foreignDst (s : State) (who : Agent) (a : Nat) : Bool :=
  (List.range Config.numDmaPhys).any fun p => who != .channel p && (s.chan p).xfer.ownsWrite a

/-- The other channels whose pending transfer a write of `who` at `a` races with (R101). -/
def State.watchers (s : State) (who : Agent) (a : Nat) : List Nat :=
  (List.range Config.numDmaPhys).filter fun p => who != .channel p && (s.chan p).xfer.awaits a

/-- The access of `who` at `a` meets an earlier write that broke the ownership of the transfer `who` performs. -/
def State.wasRaced (s : State) (who : Agent) (a : Nat) : Bool :=
  match who with
  | .channel p => s.raced.contains (p, a)
  | .sequencer | .host => false

/-- A host write at `a` in the ADC space while a chirp is in progress: the front end owes the chirp its samples (R95, R404). -/
def State.isLate (s : State) (who : Agent) (a : Nat) : Bool := who == .host && s.chirpToken && tierOf a == 3

/-- A transfer fetches a sample that was overwritten after the event of its chirp: an ownership violation (R404, log entry
26). -/
def State.fetchesLate (s : State) (who : Agent) (a : Nat) : Bool :=
  match who with
  | .channel _ => s.chirpToken && s.lateSamples.contains a
  | .sequencer | .host => false

/-- The byte `who` reads at `a` (R82): what was last written; a free value when nothing was (R391) and in a race (R101,
R404). -/
def State.rdByte (s : State) (who : Agent) (a : Nat) : Byte :=
  if s.foreignDst who a || s.wasRaced who a || s.fetchesLate who a then Config.raceRead s.tick a
  else (s.mem.get a).getD (Config.powerUpByte a)

/-- `who` writes a byte at `a`: a free value in a race, which the transfers it races with remember (R101); a late sample is
remembered too (R404). -/
def State.wrByte (s : State) (who : Agent) (a : Nat) (b : Byte) : State :=
  { s with
    mem := s.mem.set a (if s.foreignDst who a || s.wasRaced who a then Config.raceWrite s.tick a else b)
    raced := ((s.watchers who a).map fun p => (p, a)).filter (fun x => !s.raced.contains x) ++ s.raced
    lateSamples := if s.isLate who a && !s.lateSamples.contains a then a :: s.lateSamples else s.lateSamples }

/-- The `n` bytes from `a` up. -/
def State.rdBytes (s : State) (who : Agent) (a n : Nat) : List Byte :=
  (List.range n).map fun k => s.rdByte who (a + k)

/-- Writing bytes from `a` up, lowest first. -/
def State.wrBytes (s : State) (who : Agent) (a : Nat) : List Byte → State
  | [] => s
  | b :: bs => (s.wrByte who a b).wrBytes who (a + 1) bs

/-! ## Taking a Fatal, and the one way back (R352, R390) -/

/-- `Fatal(code, info)`: the first one is recorded; the mode is `HALTED`, the sequencer stops, `IRQ_STATUS.FAULT` is set;
nothing else changes (R352). -/
def State.fatal (s : State) (f : Fatal) : State :=
  State.raiseIrq
    { s with
      fault := if s.fault.code = 0 then ⟨f.code.num, BitVec.ofNat 24 f.info⟩ else s.fault
      mode := .halted
      seq := .halt } irqFault

/-- An unspecified entry of `RAWOBJ`, by step and register offset (R52, R390). -/
def RawObj.free (tick off : Nat) : RawObj :=
  let w := Config.unspecified tick off
  let v := Config.unspecified tick (off + 4)
  ⟨w.truncate 16, (w >>> 16).truncate 16, v.truncate 16⟩

/-- An unspecified entry of `OBJOUT`, by step and register offset (R53, R390). -/
def ObjOut.free (tick off : Nat) : ObjOut :=
  let w := Config.unspecified tick off
  let v := Config.unspecified tick (off + 4)
  let u := Config.unspecified tick (off + 8)
  ⟨w.truncate 16, (w >>> 16).truncate 16, v.truncate 16, (v >>> 16).truncate 16, u.truncate 16, (u >>> 16).truncate 16⟩

/-- The reset event (R390): every register at its reset value, every transfer in flight discarded; memory, the parameters
and what lies outside the block stay (R391). The table entries the spec leaves unspecified are free values. -/
def State.rst (s : State) : State :=
  { State.reset with
    win1d := Vector.ofFn fun n : Fin 512 => (Config.unspecified s.tick (0x800 + 4 * n.val)).truncate 16
    win2d := Vector.ofFn fun n : Fin 512 => Config.unspecified s.tick (0x1000 + 4 * n.val)
    rawObj := Vector.ofFn fun i : Fin 200 => RawObj.free s.tick (0x2000 + 8 * i.val)
    objOut := Vector.ofFn fun i : Fin 100 => ObjOut.free s.tick (0x3000 + 16 * i.val)
    mem := s.mem
    spaces := s.spaces
    agenda := s.agenda
    tick := s.tick
    busData := s.busData
    memData := s.memData }

/-- The tables a sequence writes step by step, as they are. -/
def State.tables (s : State) : Tables := ⟨s.bmpWord, s.dcSum, s.rawObj, s.objOut, s.numRawObj, s.numObjOut⟩

/-! ## The sequencer's work -/

/-- Sequencer work that reads and writes the state and may raise a Fatal; the writes made before the Fatal stay (R352,
R354). -/
abbrev Seqr (α : Type) := EStateM Fatal State α

/-- `raise Fatal(code, info)` (R11). -/
def raise {α : Type} (code : FaultCode) (info : Nat) : Seqr α := throw ⟨code, info⟩

/-- A check: the Fatal unless the condition holds. -/
def require (ok : Bool) (code : FaultCode) (info : Nat) : Seqr Unit :=
  if ok then pure () else raise code info

/-- How a piece of sequencer work leaves the sequencer (R25, R130). -/
inductive Flow where
  /-- It has ended: a command completes with `CMD_DONE`, a sequence that an event started does not (R130, R360). -/
  | finish (byCmd : Bool)
  /-- The next step is at a position. -/
  | pos (q : Pos)
  /-- Blocked in `DmaWait(p)` (R209). -/
  | wait (p : Nat) (resume : Pos)
deriving DecidableEq, Repr

/-- Stage 5: `SEQ <- IDLE`, so that `STATUS.BUSY` is 0, and `IRQ_STATUS.CMD_DONE <- 1` (R130). -/
def State.complete (s : State) : State := State.raiseIrq { s with seq := .idle } irqCmdDone

/-- The state after a piece of sequencer work. -/
def settle (body : Seqr Flow) (s : State) : State :=
  match body s with
  | .ok (.finish true) t => t.complete
  | .ok (.finish false) t => { t with seq := .idle }
  | .ok (.pos q) t => { t with seq := .pos q }
  | .ok (.wait p q) t => { t with seq := .wait p q }
  | .error f t => t.fatal f

/-- Stage 2: the modes that admit a command (R131). -/
def admitted (i : Instr) (m : Mode) : Bool :=
  match i with
  | .nop => m != .halted
  | .cfgCommit | .winGen _ _ => m == .unconfigured || m == .configured
  | .runStop | .chirpProc => m == .running
  | .runStart | .bmpReset | .bmpSet _ | .bmpTest _ | .bmpNext => m == .configured
  | .fft1d | .fft2d | .fft3d => m == .configured
  | .dmaCfg _ _ _ _ _ | .dmaStart _ | .dmaRetrig _ | .dmaWait _ => m == .configured
  | .cfarDop | .cfarRng _ | .pkgrpRun | .angleObj _ | .xyEst _ => m == .configured
  | .frameProc | .outAsm => m == .configured

/-- Stages 2 to 5 of a command: the mode check, then its body (R130). -/
def command (i : Instr) (body : Seqr Flow) (s : State) : State :=
  settle (do
    require (admitted i s.mode) .cmdMode i.opcode
    body) s

/-- A body that ends the command. -/
def thenDone (body : Seqr Unit) : Seqr Flow := do
  body
  pure (.finish true)

/-- Work on each number of a list, in order, the results in order. -/
def readEach {α : Type} (f : Nat → Seqr α) : List Nat → Seqr (List α)
  | [] => pure []
  | i :: is => do
    let x ← f i
    let xs ← readEach f is
    pure (x :: xs)

/-- Work on each element of a list with its index from `i` up, in order. -/
def writeEach {α : Type} (f : Nat → α → Seqr Unit) : Nat → List α → Seqr Unit
  | _, [] => pure ()
  | i, x :: xs => do
    f i x
    writeEach f (i + 1) xs

/-! ## Memory accesses of the sequencer (R11, R85, R86) -/

/-- `MemRead(addr, n)` (R11). -/
def memRead (addr n : Nat) : Seqr Nat := do
  let s ← get
  require (s.spaces.admits false addr n) .memBounds addr
  pure (leNat (s.rdBytes .sequencer addr n))

/-- `MemWrite(addr, n, v)` (R11). -/
def memWrite (addr n v : Nat) : Seqr Unit := do
  let s ← get
  require (s.spaces.admits true addr n) .memBounds addr
  modify fun t => t.wrBytes .sequencer addr (leBytes n v)

/-- The alignment of a typed access, tested before its bounds (R85, R363). -/
def aligned (addr n : Nat) : Seqr Unit := require (addr % n == 0) .memAlign addr

/-- `RdU16` (R85). -/
def rdU16 (addr : Nat) : Seqr Nat := do
  aligned addr 2
  memRead addr 2

/-- `WrU16` (R85). -/
def wrU16 (addr v : Nat) : Seqr Unit := do
  aligned addr 2
  memWrite addr 2 v

/-- The complex value with `n`-bit parts in a number: `re` in the low bits (R84). -/
def cxOf (n v : Nat) : Cx := ⟨sext n (v % 2 ^ n), sext n (v / 2 ^ n % 2 ^ n)⟩

/-- The number that holds a complex value with `n`-bit parts (R84). -/
def cxBits (n : Nat) (z : Cx) : Nat := lowBits n z.re + 2 ^ n * lowBits n z.im

/-- `RdC16` (R84, R85). -/
def rdC16 (addr : Nat) : Seqr Cx := do
  aligned addr 4
  let v ← memRead addr 4
  pure (cxOf 16 v)

/-- `WrC16` (R84, R85). -/
def wrC16 (addr : Nat) (z : Cx) : Seqr Unit := do
  aligned addr 4
  memWrite addr 4 (cxBits 16 z)

/-- `RdC32` (R84, R85). -/
def rdC32 (addr : Nat) : Seqr Cx := do
  aligned addr 8
  let v ← memRead addr 8
  pure (cxOf 32 v)

/-- `WrC32` (R84, R85). -/
def wrC32 (addr : Nat) (z : Cx) : Seqr Unit := do
  aligned addr 8
  memWrite addr 8 (cxBits 32 z)

/-- `WrU64` (R85). -/
def wrU64 (addr v : Nat) : Seqr Unit := do
  aligned addr 8
  memWrite addr 8 v

/-! ## Results -/

/-- `RES[0] <- v` (R27). -/
def setRes0 (v : Nat) : Seqr Unit := modify fun s => { s with res0 := BitVec.ofNat 32 v }

/-- `RES[1] <- v` (R27). -/
def setRes1 (v : Nat) : Seqr Unit := modify fun s => { s with res1 := BitVec.ofNat 32 v }

end Sys2Proof.Machine
end

