-- ==== Sys2Proof/Machine/Bitmap.lean ====
section
/-! DEFINITION. The Doppler-line bitmap (R150) and the commands BMP.RESET, BMP.SET, BMP.TEST, BMP.NEXT (R151 to R154). -/

namespace Sys2Proof.Machine

/-- `32 * W` with `W = max(Nd / 32, 1)`: the bit positions of the bitmap (R150). -/
def State.bmpSize (s : State) : Nat := 32 * max (s.nd / 32) 1

/-- `Bit(i)` (R150). -/
def State.bmpBit (s : State) (i : Nat) : Bool := (tabGet s.bmpWord (i / 32) 0).getLsbD (i % 32)

/-- Setting bit `i` (R152). -/
def State.bmpMark (s : State) (i : Nat) : State :=
  { s with
    bmpWord := tabSet s.bmpWord (i / 32) (tabGet s.bmpWord (i / 32) 0 ||| BitVec.ofNat 32 (2 ^ (i % 32))) }

/-- Setting the bits of a list (R255, R325). -/
def State.bmpMarkAll (s : State) : List Nat → State
  | [] => s
  | i :: is => (s.bmpMark i).bmpMarkAll is

/-- `BmpCount()` (R150). -/
def State.bmpCount (s : State) : Nat :=
  ((List.range (max (s.nd / 32) 1)).map fun w => popcount 32 (tabGet s.bmpWord w 0).toNat).sum

/-- All bits and the cursor cleared (R151). -/
def State.bmpClear (s : State) : State := { s with bmpWord := Vector.replicate 32 0, bmpCursor := 0 }

/-- The least position at or above the cursor whose bit is set (R154). -/
def State.bmpFind (s : State) : Option Nat :=
  (List.range s.bmpSize).find? fun i => decide (s.bmpCursor.toNat ≤ i) && s.bmpBit i

/-- The body of BMP.NEXT, answering the index (R154, R326). -/
def bmpAdvance : Seqr Nat := do
  let s ← get
  match s.bmpFind with
  | none => raise .bitmapExhausted s.bmpCursor.toNat
  | some i => do
    modify fun t => { t with bmpCursor := BitVec.ofNat 11 (i + 1) }
    pure i

/-- BMP.RESET (R151). -/
def execBmpReset (s : State) : Host.Outcome State Fault Refusal :=
  .next (command .bmpReset (thenDone (modify State.bmpClear)) s)

/-- The body of BMP.SET (R152). -/
def bmpSetBody (index : Nat) : Seqr Unit := do
  let s ← get
  require (decide (index < s.nd)) .badIndex index
  modify fun t => t.bmpMark index

/-- BMP.SET (R152). -/
def execBmpSet (index : Nat) (s : State) : Host.Outcome State Fault Refusal :=
  .next (command (.bmpSet index) (thenDone (bmpSetBody index)) s)

/-- The body of BMP.TEST (R153). -/
def bmpTestBody (index : Nat) : Seqr Unit := do
  let s ← get
  require (decide (index < s.nd)) .badIndex index
  setRes0 (s.bmpBit index).toNat

/-- BMP.TEST (R153). -/
def execBmpTest (index : Nat) (s : State) : Host.Outcome State Fault Refusal :=
  .next (command (.bmpTest index) (thenDone (bmpTestBody index)) s)

/-- The body of BMP.NEXT (R154). -/
def bmpNextBody : Seqr Unit := do
  let i ← bmpAdvance
  setRes0 i

/-- BMP.NEXT (R154). -/
def execBmpNext (s : State) : Host.Outcome State Fault Refusal :=
  .next (command .bmpNext (thenDone bmpNextBody) s)

end Sys2Proof.Machine
end

