-- ==== Sys2Proof/Machine/Operands.lean ====
section
/-! DEFINITION. The operands of the commands: the `ARG` registers (R26, R116) and the addresses of buffer elements (R88, R93 to R95). -/

namespace Sys2Proof.Machine

/-- `ARG[i]` as the running command reads it: its value, or, where the host wrote it after the command was accepted, a free
choice among the values it has held since (R26, R403, U7). -/
def State.operand (s : State) (i : Nat) : Word :=
  match tabGet s.argPast i [] with
  | [] => tabGet s.arg i 0
  | old => listGet (tabGet s.arg i 0 :: old) (Config.argChoice s.tick i % (old.length + 1)) 0

/-- `BUF[k]`: the active base of buffer `k` (R88). -/
def State.buf (s : State) (k : Nat) : Nat := (tabGet s.act.bufBase k 0).toNat

/-- `CubeAddr(v, r, d)` (R93). -/
def State.cubeAddr (s : State) (v r d : Nat) : Nat := s.buf 4 + 4 * ((v * s.nr + r) * s.nd + d)

/-- `DetAddr(r, d)` (R94). -/
def State.detAddr (s : State) (r d : Nat) : Nat := s.buf 5 + 2 * (r * s.nd + d)

/-- `HeatAddr(r, v)` (R94). -/
def State.heatAddr (s : State) (r v : Nat) : Nat := s.buf 13 + 8 * (r * s.nv + v)

/-- `AdcAddr(rx, n)` (R95). -/
def State.adcAddr (s : State) (rx n : Nat) : Nat := 0xC0000000 + 4 * (rx * s.ns + n)

end Sys2Proof.Machine
end

