-- ==== Sys2Proof/Machine/Dma.lean ====
section
/-! DEFINITION. The DMA sequencer: the sequencer-side operations (R207 to R209), the pipeline's descriptors (R215), the
perform step of a channel (R210), and the commands DMA.CFG, DMA.START, DMA.RETRIG, DMA.WAIT (R205, R206, R208, R209). -/

namespace Sys2Proof.Machine

/-! ## Sequencer-side operations -/

/-- `p <= 11` (R205, R207, R209). -/
def channelExists (p : Nat) : Seqr Unit := require (decide (p < Config.numDmaPhys)) .dmaConfig p

/-- `DmaStart(p)`: the checks of R207 in order, then `BUSY` with the snapshot of the descriptor. -/
def dmaStart (p : Nat) : Seqr Unit := do
  channelExists p
  let s ← get
  let c := s.chan p
  require c.configured .dmaConfig (0x20 ||| p)
  require (c.srcBound && c.dstBound) .dmaConfig (0x30 ||| p)
  require c.xfer.isIdle .dmaProtocol p
  modify fun t => t.setChan p { c with xfer := .busy c.desc }

/-- `DmaRetrig(p, s, d)`: checks 1, 2 and 4 of R207, the rebinding, then `DmaStart(p)` (R208). -/
def dmaRetrig (p src dst : Nat) : Seqr Unit := do
  channelExists p
  let s ← get
  let c := s.chan p
  require c.configured .dmaConfig (0x20 ||| p)
  require c.xfer.isIdle .dmaProtocol p
  modify fun t => t.setChan p
    { c with
      desc := { c.desc with src := BitVec.ofNat 32 src, dst := BitVec.ofNat 32 dst }
      srcBound := true
      dstBound := true }
  dmaStart p

/-- Consuming the completion of channel `p`: `DONE <- 0` (R209 step 4). -/
def State.consume (s : State) (p : Nat) : State := s.setChan p { s.chan p with xfer := .idle }

/-- `DmaWait(p)` followed by `k`: when `DONE` is 1 already the wait ends at once; otherwise the sequencer is in
`WAIT(p, resume)`, and `resume` is the position of `k` (R209). -/
def awaitThen (p : Nat) (resume : Pos) (k : Seqr Flow) : Seqr Flow := do
  channelExists p
  let s ← get
  if (s.chan p).xfer.isDone then do
    modify fun t => t.consume p
    k
  else pure (.wait p resume)

/-- `SIZE`, `SSTRIDE`, `DSTRIDE` of a pipeline channel: `(ESIZE, ECOUNT, SSTRIDE, DSTRIDE)` (R215). -/
def State.pipelineShape (s : State) (p : Nat) : Nat × Nat × Nat × Nat :=
  match p / 2 with
  | 0 => (4 * s.ns, 1, 0, 0)
  | 1 => (4, s.nrx * s.nr, 4, 4 * s.nd)
  | 2 => (4 * s.nd, 1, 0, 0)
  | 3 => (2 * s.nd, 1, 0, 0)
  | 4 => (2, s.nr, 2 * s.nd, 2)
  | _ => (4 * s.nd, s.nv, 4 * s.nr * s.nd, 4 * s.nd)

/-- The registers of a freshly programmed pipeline channel: null addresses, no interrupt, priority 0 (R215). -/
def State.pipelineChan (s : State) (p : Nat) : Chan :=
  let (esize, ecount, sstride, dstride) := s.pipelineShape p
  { desc :=
      { src := 0
        dst := 0
        esize := BitVec.ofNat 16 esize
        ecount := BitVec.ofNat 16 ecount
        sstride := BitVec.ofNat 32 sstride
        dstride := BitVec.ofNat 32 dstride }
    prio := false
    ien := false
    srcBound := false
    dstBound := false
    configured := true
    xfer := .idle }

/-- Programming the channels of a list, one after the other (R215). -/
def State.program (s : State) : List Nat → State
  | [] => s
  | p :: ps => (s.setChan p (s.pipelineChan p)).program ps

/-- `ProgramPipeline(set)`, the set given in ascending order (R215). -/
def programPipeline (ps : List Nat) : Seqr Unit := do
  let s ← get
  match s.leastChan (fun c => !c.xfer.isIdle) ps with
  | some p => raise .dmaProtocol p
  | none => modify fun t => t.program ps

/-! ## The perform step (R210) -/

/-- The source address of element `e` (R204). -/
def Descr.srcAt (d : Descr) (e : Nat) : Nat := d.src.toNat + e * d.sstride.toNat

/-- The destination address of element `e` (R204). -/
def Descr.dstAt (d : Descr) (e : Nat) : Nat := d.dst.toNat + e * d.dstride.toNat

/-- Every range of the transfer is admitted (R210 step 1). -/
def Descr.admitted (d : Descr) (c : Spaces) : Bool :=
  (List.range d.ecount.toNat).all fun e =>
    c.admits false (d.srcAt e) d.esize.toNat && c.admits true (d.dstAt e) d.esize.toNat

/-- The elements the transfer of channel `p` reads (R210 step 2). -/
def State.fetch (s : State) (p : Nat) (d : Descr) : List (List Byte) :=
  (List.range d.ecount.toNat).map fun e => s.rdBytes (.channel p) (d.srcAt e) d.esize.toNat

/-- Writing elements in ascending order, the first at `a`, each `stride` above the last (R210 step 3). -/
def State.deliver (s : State) (who : Agent) (stride a : Nat) : List (List Byte) → State
  | [] => s
  | x :: xs => (s.wrBytes who a x).deliver who stride (a + stride) xs

/-- The flags at the end of a transfer: `BUSY <- 0`, `DONE <- 1`, and the interrupt bit when `IEN` is set (R210 step 4). -/
def State.finishTransfer (s : State) (p : Nat) (d : Descr) : State :=
  let c := s.chan p
  let t := s.setChan p { c with xfer := .done d }
  let u := { t with raced := t.raced.filter fun x => x.1 != p }
  if c.ien then u.raiseIrq (irqDmaDone p) else u

/-- The perform step of channel `p`; nothing when it is not enabled (R210, R211). -/
def State.perform (s : State) (p : Nat) : State :=
  match (s.chan p).xfer with
  | .idle | .done _ => s
  | .busy d =>
    if s.mode = .halted then s
    else if d.admitted s.spaces then
      (s.deliver (.channel p) d.dstride.toNat d.dst.toNat (s.fetch p d)).finishTransfer p d
    else s.fatal ⟨.dmaError, p⟩

/-! ## The commands -/

/-- The body of DMA.CFG (R205). -/
def dmaCfgBody (p : Nat) (nullSrc nullDst prio ien : Bool) : Seqr Unit := do
  channelExists p
  let s ← get
  require (s.chan p).xfer.isIdle .dmaProtocol p
  let size := s.operand 2
  let esize := size.truncate 16
  let ecount := (size >>> 16).truncate 16
  require (esize != 0 && ecount != 0) .dmaConfig (0x10 ||| p)
  modify fun t => t.setChan p
    { desc :=
        { src := if nullSrc then 0 else s.operand 0
          dst := if nullDst then 0 else s.operand 1
          esize := esize
          ecount := ecount
          sstride := s.operand 3
          dstride := s.operand 4 }
      prio := prio
      ien := ien
      srcBound := !nullSrc
      dstBound := !nullDst
      configured := true
      xfer := .idle }

/-- DMA.CFG (R205). -/
def execDmaCfg (p : Nat) (nullSrc nullDst prio ien : Bool) (s : State) : Host.Outcome State Fault Refusal :=
  .next (command (.dmaCfg p nullSrc nullDst prio ien) (thenDone (dmaCfgBody p nullSrc nullDst prio ien)) s)

/-- DMA.START (R206). -/
def execDmaStart (p : Nat) (s : State) : Host.Outcome State Fault Refusal :=
  .next (command (.dmaStart p) (thenDone (dmaStart p)) s)

/-- The body of DMA.RETRIG (R208). -/
def dmaRetrigBody (p : Nat) : Seqr Unit := do
  let s ← get
  dmaRetrig p (s.operand 0).toNat (s.operand 1).toNat

/-- DMA.RETRIG (R208). -/
def execDmaRetrig (p : Nat) (s : State) : Host.Outcome State Fault Refusal :=
  .next (command (.dmaRetrig p) (thenDone (dmaRetrigBody p)) s)

/-- DMA.WAIT (R209). -/
def execDmaWait (p : Nat) (s : State) : Host.Outcome State Fault Refusal :=
  .next (command (.dmaWait p) (awaitThen p .complete (pure (.finish true))) s)

end Sys2Proof.Machine
end

