-- ==== Sys2Proof/Machine/Control.lean ====
section
/-! DEFINITION. NOP, CFG.COMMIT, RUN.START, RUN.STOP (R132 to R137), the checks of a configuration (R133) and of its buffer
placement (R88 to R91, R95), and when a window table is usable (R165). -/

namespace Sys2Proof.Machine

/-- A check that failed, if any did: the first of a list of conditions that is false. -/
def firstFailure : List (Bool × Fatal) → Option Fatal
  | [] => none
  | (ok, f) :: rest => if ok then firstFailure rest else some f

/-- Raising a failure that was found. -/
def raiseFound : Option Fatal → Seqr Unit
  | none => pure ()
  | some f => raise f.code f.info

/-- NOP (R137). -/
def execNop (s : State) : Host.Outcome State Fault Refusal :=
  .next (command .nop (thenDone (pure ())) s)

/-! ## The checks of CFG.COMMIT -/

/-- Check 11: the DC-signature calibration fields (R41, R133). -/
def Cfg.dcOk (c : Cfg) : Bool :=
  let neg := c.dcNeg.toInt
  let pos : Int := c.dcPos.toNat
  !c.dcEnable ||
    (isPow2 c.dcAvg.toNat && decide (-31 ≤ neg) && decide (neg ≤ 0) && decide (pos ≤ 31)
      && decide (pos - neg + 1 ≤ min (Config.dcMaxBins : Int) c.numRange.toNat))

/-- Check 8: the Doppler windows fit (R133). -/
def Cfg.dopWindowOk (c : Cfg) : Bool :=
  let w := c.cfarDop.winLen.toNat
  let g := c.cfarDop.guardLen.toNat
  decide (1 ≤ w) && decide (2 * (g + w) + c.cfarDop.cyclic.toNat ≤ c.numDop.toNat)

/-- Check 9: the range axis is not cyclic and the range windows fit (R133). -/
def Cfg.rngWindowOk (c : Cfg) : Bool :=
  let w := c.cfarRng.winLen.toNat
  let g := c.cfarRng.guardLen.toNat
  !c.cfarRng.cyclic && decide (1 ≤ w) && decide (2 * (g + w) ≤ c.numRange.toNat)

/-- The eleven checks in order, each with the Fatal it raises (R133). -/
def Cfg.checks (c : Cfg) : List (Bool × Fatal) :=
  let rx := c.numRx.toNat
  let tx := c.numTx.toNat
  let ns := c.numAdc.toNat
  let nr := c.numRange.toNat
  let nd := c.numDop.toNat
  [ (decide (1 ≤ rx) && decide (rx ≤ Config.maxRxAnt), ⟨.cfgInvalid, 1⟩),
    (decide (1 ≤ tx) && decide (tx ≤ Config.maxTxAnt), ⟨.cfgInvalid, 2⟩),
    (ns % 16 == 0 && decide (16 ≤ ns) && decide (ns ≤ 1024), ⟨.cfgInvalid, 3⟩),
    (nr == nextPow2 ns, ⟨.cfgInvalid, 4⟩),
    (isPow2 nd && decide (Config.minFftSize ≤ nd) && decide (nd ≤ Config.maxFftSize), ⟨.cfgInvalid, 5⟩),
    (c.cfarDop.avgMode != 3, ⟨.cfgCfarMode, 6⟩),
    (c.cfarRng.avgMode != 3, ⟨.cfgCfarMode, 7⟩),
    (c.dopWindowOk, ⟨.cfgInvalid, 8⟩),
    (c.rngWindowOk, ⟨.cfgInvalid, 9⟩),
    (decide (c.pkMin.toNat ≤ c.pkMax.toNat) && decide (c.pkMax.toNat + 1 ≤ nr), ⟨.cfgInvalid, 10⟩),
    (c.dcOk, ⟨.cfgInvalid, 11⟩) ]

/-- The phases of the buffer table (R88). -/
inductive Phase where
  | p1
  | p2
  | persist
deriving DecidableEq, Repr

/-- The phase of buffer `k` (R88). -/
def bufPhase (k : Nat) : Phase :=
  if k ≤ 3 then .p1
  else if 6 ≤ k ∧ k ≤ 12 then .p2
  else .persist

/-- The size of buffer `k` in bytes (R88). -/
def Cfg.bufSize (c : Cfg) (k : Nat) : Nat :=
  let nrx := c.numRx.toNat
  let nv := nrx * c.numTx.toNat
  let ns := c.numAdc.toNat
  let nr := c.numRange.toNat
  let nd := c.numDop.toNat
  match k with
  | 0 | 1 => 4 * ns
  | 2 | 3 => 4 * nrx * nr
  | 4 => 4 * nv * nr * nd
  | 5 => 2 * nr * nd
  | 6 | 7 => 4 * nd
  | 8 | 9 => 2 * nd
  | 10 | 11 => 2 * nr
  | 12 => 4 * nv * nd
  | 13 => 8 * nr * nv
  | 14 | 15 => 2 * nr
  | 16 => 4 + 12 * Config.maxObjOut
  | _ => 32

/-- `BUF_BASE[k]` as an address. -/
def Cfg.base (c : Cfg) (k : Nat) : Nat := (tabGet c.bufBase k 0).toNat

/-- The alignment and tier of buffer `k` (R89). -/
def Cfg.alignedOk (c : Cfg) (k : Nat) : Bool := c.base k % 8 == 0 && decide (tierOf (c.base k) < 3)

/-- Buffer `k` fits its tier (R90). -/
def Cfg.fits (c : Cfg) (sp : Spaces) (k : Nat) : Bool :=
  decide (offsetOf (c.base k) + c.bufSize k ≤ sp.capacity (tierOf (c.base k)))

/-- Buffers `j` and `k` may lie where they are: they share no byte, or one is `P1` and the other `P2` (R91). -/
def Cfg.pairOk (c : Cfg) (j k : Nat) : Bool :=
  let a := c.base j
  let b := c.base k
  tierOf a != tierOf b
    || decide (offsetOf a + c.bufSize j ≤ offsetOf b) || decide (offsetOf b + c.bufSize k ≤ offsetOf a)
    || (bufPhase j == .p1 && bufPhase k == .p2) || (bufPhase j == .p2 && bufPhase k == .p1)

/-- The layout checks, in the order R89, R90, R91, R95, each in ascending buffer order (log entry 10). -/
def Cfg.layoutChecks (c : Cfg) (sp : Spaces) : List (Bool × Fatal) :=
  (List.range 18).map (fun k => (c.alignedOk k, ⟨.cfgLayout, k⟩))
    ++ (List.range 18).map (fun k => (c.fits sp k, ⟨.cfgLayout, k⟩))
    ++ (List.range 18).map (fun j =>
        ((List.range 18).all fun k => decide (k ≤ j) || c.pairOk j k, ⟨.cfgLayout, j⟩))
    ++ [(decide (4 * c.numRx.toNat * c.numAdc.toNat ≤ sp.capacity 3), ⟨.cfgLayout, 0xFF⟩)]

/-! ## CFG.COMMIT -/

/-- R134 (1) to (5) up to the clearing of `DONE`. The model's choices here: the stored entries of `RAWOBJ` and `OBJOUT` stay as
they are though none is valid any more, and a host read of them is a free value (R52, R53, log entry 24); a completion that
no wait has consumed is forgotten, and with it the ownership of R101 ends (log entry 25). -/
def State.latch (s : State) : State :=
  let c := s.stg
  State.bmpClear
    { s with
      act := c
      numVirtAnt := BitVec.ofNat 32 (c.numRx.toNat * c.numTx.toNat)
      chirpsPerFrame := BitVec.ofNat 32 (c.numDop.toNat * c.numTx.toNat)
      chirpCount := 0
      txAntCount := 0
      dopBinCount := 0
      dcCount := 0
      dcSum := Vector.replicate 256 ⟨0, 0⟩
      numRawObj := 0
      numObjOut := 0
      numOutDesc := 0
      chirpToken := false
      frameToken := false
      dma := s.dma.map fun ch => { ch with xfer := .idle } }

/-- The body of CFG.COMMIT (R132, R134). A busy channel alone is `DMA_PROTOCOL`, as R132 has it; an unconsumed completion, which the
table of R353 names too, is cleared by R134 (5) (log entry 29, DEDUCED). -/
def cfgCommitBody : Seqr Unit := do
  let s ← get
  match s.leastChan (fun c => c.xfer.isBusy) (List.range Config.numDmaPhys) with
  | some p => raise .dmaProtocol p
  | none => pure ()
  raiseFound (firstFailure s.stg.checks)
  raiseFound (firstFailure (s.stg.layoutChecks s.spaces))
  modify State.latch
  programPipeline (List.range 11)
  modify fun t => { t.setChan 11 Chan.zero with mode := .configured }

/-- CFG.COMMIT (R132). -/
def execCfgCommit (s : State) : Host.Outcome State Fault Refusal :=
  .next (command .cfgCommit (thenDone cfgCommitBody) s)

/-! ## RUN.START -/

/-- `WinOk(t, L)` for a table's registers (R165). -/
def WinInfo.ok (w : WinInfo) (len : Nat) : Bool :=
  w.valid && w.len.toNat == len && decide (len ≤ 2 * w.gen.toNat)

/-- `WinOk1D` (R165). -/
def State.winOk1D (s : State) : Bool := s.win1dInfo.ok s.ns

/-- `WinOk2D` (R165). -/
def State.winOk2D (s : State) : Bool := s.win2dInfo.ok s.nd

/-- `A * Ntx`, the chirps of a calibration cycle (R232, R237). -/
def State.dcTarget (s : State) : Nat := s.act.dcAvg.toNat * s.ntx

/-- R135 step 3 before the descriptors: the counters and tokens of a new run. -/
def State.beginRun (s : State) : State :=
  { s with
    chirpCount := 0
    txAntCount := 0
    dopBinCount := 0
    chirpToken := false
    frameToken := false
    dcCount := if s.act.dcEnable && decide (s.dcCount.toNat < s.dcTarget) then 0 else s.dcCount }

/-- The body of RUN.START (R135). -/
def runStartBody : Seqr Unit := do
  let s ← get
  require s.winOk1D .cfgWindow 0
  require s.winOk2D .cfgWindow 1
  match s.leastChan (fun c => !c.xfer.isIdle) (List.range Config.numDmaPhys) with
  | some p => raise .dmaProtocol p
  | none => pure ()
  modify State.beginRun
  programPipeline (List.range 11)
  modify fun t => { t with mode := .running }

/-- RUN.START (R135). -/
def execRunStart (s : State) : Host.Outcome State Fault Refusal :=
  .next (command .runStart (thenDone runStartBody) s)

/-! ## The results window (R102, R337, R405) -/

/-- The buffers of R102: `CUBE`, `DETMAT`, `HEATMAP`, `RANGEPROF`, `NOISEPROF`, `OBJBUF`, `STATS` (R88). -/
def resultBuffers : List Nat := [4, 5, 13, 14, 15, 16, 17]

/-- Buffer `k` where the active configuration places it. -/
def State.placeOf (s : State) (k : Nat) : Shown := ⟨k, s.buf k, s.act.bufSize k⟩

/-- The bytes of `r` that are not among those of `q`: those below and those above. -/
def Shown.minus (r q : Shown) : List Shown :=
  let top := max r.base (q.base + q.size)
  [⟨r.buf, r.base, min r.size (q.base - r.base)⟩, ⟨r.buf, top, r.base + r.size - top⟩].filter fun p => p.size != 0

/-- The block begins to rewrite a buffer at place `q`: what was published of that buffer, and what was published of another
where `q` lies now, is no longer readable (R102, R337). -/
def Window.close (w : Window) (q : Shown) : Window :=
  { w with shown := (w.shown.filter fun r => r.buf != q.buf).flatMap fun r => r.minus q }

/-- The host may read a buffer at place `q`. -/
def Window.show (w : Window) (q : Shown) : Window := { w.close q with shown := q :: (w.close q).shown }

/-- Every result of a published frame readable. -/
def State.published (s : State) : Window := ⟨resultBuffers.map s.placeOf, true, true⟩

/-! ## RUN.STOP -/

/-- Step 3, at the end of the drain (R136): in mid-frame the cube, its transfers drained, is the host's to read (R233 (g)). -/
def State.endRun (s : State) : State :=
  { s with
    window := if s.chirpCount = 0 then s.window else s.window.show (s.placeOf 4)
    mode := .configured }

/-- R136 steps 2 and 3: the loop over the channels of the list, then the mode. -/
def stopDrain : List Nat → Seqr Flow
  | [] => do
    modify State.endRun
    pure (.finish true)
  | p :: ps => do
    let s ← get
    if (s.chan p).xfer.isIdle then stopDrain ps
    else awaitThen p (.stop (p + 1)) (stopDrain ps)

/-- RUN.STOP from channel `p` on (R136). -/
def stopFrom (p : Nat) : Seqr Flow := stopDrain ((List.range Config.numDmaPhys).drop p)

/-- The body of RUN.STOP (R136). -/
def runStopBody : Seqr Flow := do
  modify fun t => { t with chirpToken := false }
  stopFrom 0

/-- RUN.STOP (R136). -/
def execRunStop (s : State) : Host.Outcome State Fault Refusal :=
  .next (command .runStop runStopBody s)

end Sys2Proof.Machine
end

