-- ==== Sys2Proof/Machine/Rom.lean ====
section
/-! DEFINITION. The ROM constants of R161, R163 and R169 to R171: window coefficients and twiddle factors. The real-number
formulas are evaluated with 112 fraction bits; the error is below `2^-104`, and no rounding boundary of any window with
`L ≤ 1024`, `oneQ ≤ 2^31` or of any twiddle of a size up to 2048 lies that near (log entry 5), so every value is the exact
one. The angles whose cosine is rational are exact. -/

namespace Sys2Proof.Machine

/-- The number 1 with 112 fraction bits. -/
def fxOne : Nat := 2 ^ 112

/-- `pi` with 112 fraction bits, truncated. -/
def fxPi : Nat := 16312081666030376401667486162748272

/-- The cosine series `1 - t/(1*2) (1 - t/(3*4) (...))` in `t = x*x`, `n` terms from term `j` on. -/
def cosSeries (t : Nat) : Nat → Nat → Nat
  | 0, _ => fxOne
  | n + 1, j => fxOne - t * cosSeries t n (j + 1) / fxOne / ((2 * j + 1) * (2 * j + 2))

/-- The series of `sin x / x`: `1 - t/(2*3) (1 - t/(4*5) (...))` in `t = x*x`, `n` terms from term `j` on. -/
def sinSeries (t : Nat) : Nat → Nat → Nat
  | 0, _ => fxOne
  | n + 1, j => fxOne - t * sinSeries t n (j + 1) / fxOne / ((2 * j + 2) * (2 * j + 3))

/-- `cos(2*pi * num/den)` for `0 ≤ num/den ≤ 1/4`: by the cosine below an eighth of a turn, else by the sine of the
complement; one sixth of a turn is exactly a half. -/
def cosQuarter (num den : Nat) : Nat :=
  if 6 * num = den then fxOne / 2
  else if 8 * num ≤ den then
    let x := 2 * fxPi * num / den
    cosSeries (x * x / fxOne) 15 0
  else
    let x := 2 * fxPi * (den - 4 * num) / (4 * den)
    x * sinSeries (x * x / fxOne) 15 0 / fxOne

/-- `cos(2*pi * k/d)` with 112 fraction bits, folded to a quarter turn by the symmetries of the cosine. -/
def cosTurn (k d : Nat) : Int :=
  let r := k % d
  let h := if 2 * r ≤ d then r else d - r
  if 4 * h ≤ d then (cosQuarter h d : Int) else -(cosQuarter (d - 2 * h) (2 * d) : Int)

/-- `WinCoef(kind, L, n, oneQ) = min(oneQ - 1, floor(oneQ * f_kind(n, L) + 1/2))` (R161, R163). -/
def winCoef (kind : WinKind) (len n oneQ : Nat) : Nat :=
  let c := cosTurn n (len - 1)
  let c2 := cosTurn (2 * n) (len - 1)
  let q : Int := oneQ
  let v : Int :=
    match kind with
    | .blackman => (2 * q * (42 * fxOne - 50 * c + 8 * c2) + 100 * fxOne) / (200 * fxOne)
    | .hanning => (q * (fxOne - c) + fxOne) / (2 * fxOne)
    | .rectangular => q
    | .notAWindow => q
  min (oneQ - 1) v.toNat

/-- `rhaz` of a number with 112 fraction bits: to nearest, ties away from zero (R169). -/
def rhaz (x : Int) : Int :=
  if 0 ≤ x then (2 * x + fxOne) / (2 * fxOne) else -((2 * -x + fxOne) / (2 * fxOne))

/-- `(rhaz(amp * cos(2*pi*k'/N)), rhaz(-amp * sin(2*pi*k'/N)))` with `k' = k mod N` (R170, R171); the sine of an angle is
the cosine of the angle less a quarter turn. -/
def twiddle (amp : Int) (n k : Nat) : Cx :=
  let r := k % n
  ⟨rhaz (amp * cosTurn r n), rhaz (-(amp * cosTurn (4 * r + 3 * n) (4 * n)))⟩

/-- `TW16(N, k)` (R170). -/
def tw16 (n k : Nat) : Cx := twiddle 32767 n k

/-- `TW32(N, k)` (R171). -/
def tw32 (n k : Nat) : Cx := twiddle 2147483647 n k

end Sys2Proof.Machine
end

