-- ==== Sys2Proof/Machine/Fft.lean ====
section
/-! DEFINITION. The transform engines and the magnitudes (R172 to R182): pure functions of their arguments and the ROM. -/

namespace Sys2Proof.Machine

/-- The two engines of R173. -/
inductive Engine where
  /-- 16-bit words: `TW16`, `cmul_q15`, `sat16`, halving in the even stages but the last. -/
  | k16
  /-- 32-bit words: `TW32`, `cmul_q31`, `sat32`, no halving. -/
  | k32
deriving DecidableEq, Repr

/-- The twiddle ROM an engine uses (R173). -/
def engineTw : Engine → Nat → Nat → Cx
  | .k16, n, k => tw16 n k
  | .k32, n, k => tw32 n k

/-- The twiddle's fraction bits (R172). -/
def engineFrac : Engine → Nat
  | .k16 => 15
  | .k32 => 31

/-- The engine's word saturation (R173). -/
def engineSat : Engine → Int → Int
  | .k16, v => sat16 v
  | .k32, v => sat32 v

/-- `sh` of stage `s` of `m` (R173). -/
def stageShift (e : Engine) (s m : Nat) : Nat :=
  if e = .k16 ∧ s % 2 = 0 ∧ s < m then 1 else 0

/-- Complex multiply by a twiddle of `q` fraction bits: exact products, one rounding per part (R172). -/
def cmul (q : Nat) (v w : Cx) : Cx :=
  ⟨rndShr (v.re * w.re - v.im * w.im) q, rndShr (v.re * w.im + v.im * w.re) q⟩

/-- `cmul_q15` (R172). -/
def cmulQ15 (v w : Cx) : Cx := cmul 15 v w

/-- `cmul_q31` (R172). -/
def cmulQ31 (v w : Cx) : Cx := cmul 31 v w

/-- The upper output of a butterfly (R173). -/
def bflyAdd (e : Engine) (sh : Nat) (u t : Cx) : Cx :=
  ⟨engineSat e (rndShr (u.re + t.re) sh), engineSat e (rndShr (u.im + t.im) sh)⟩

/-- The lower output of a butterfly (R173). -/
def bflySub (e : Engine) (sh : Nat) (u t : Cx) : Cx :=
  ⟨engineSat e (rndShr (u.re - t.re) sh), engineSat e (rndShr (u.im - t.im) sh)⟩

/-- One group of a stage: the `2 * half` elements of `a`, pair `j` with the twiddle `TW(N, j * (N / span))` (R173). -/
def fftGroup (e : Engine) (n half sh : Nat) (a : List Cx) : List Cx :=
  let u := a.take half
  let v := a.drop half
  let t := List.zipWith (fun j x => cmul (engineFrac e) x (engineTw e n (j * (n / (2 * half))))) (List.range half) v
  List.zipWith (bflyAdd e sh) u t ++ List.zipWith (bflySub e sh) u t

/-- A stage: `groups` groups one after the other (R173). -/
def fftStage (e : Engine) (n half sh : Nat) : Nat → List Cx → List Cx
  | 0, _ => []
  | g + 1, a => fftGroup e n half sh (a.take (2 * half)) ++ fftStage e n half sh g (a.drop (2 * half))

/-- Stages `s + 1` to `s + k` of a transform of `2^m` points (R173). -/
def fftStages (e : Engine) (m : Nat) : Nat → Nat → List Cx → List Cx
  | 0, _, a => a
  | k + 1, s, a =>
    fftStages e m k (s + 1) (fftStage e (2 ^ m) (2 ^ s) (stageShift e (s + 1) m) (2 ^ m / 2 ^ (s + 1)) a)

/-- `Fft(x, K)` for `2^m` points: bit-reversed input order, then stages 1 to `m` (R173). -/
def fft (e : Engine) (m : Nat) (x : List Cx) : List Cx :=
  fftStages e m m 0 ((List.range (2 ^ m)).map fun i => listGet x (bitrev m i) Cx.zero)

/-- `FFT16` of `n` points (R174). -/
def fft16 (n : Nat) (x : List Cx) : List Cx := fft .k16 (Nat.log2 n) x

/-- `FFT32` of `n` points (R175). -/
def fft32 (n : Nat) (x : List Cx) : List Cx := fft .k32 (Nat.log2 n) x

/-- `AzimuthFft` (R187): `Na` points, no window. -/
def azimuthFft (x : List Cx) : List Cx := fft32 Config.numAngleBins x

/-- `LOG2Q8(m)` (R179). -/
def log2q8 (m : Nat) : Nat :=
  if m = 0 then 0 else 256 * Nat.log2 m + (m - 2 ^ Nat.log2 m) * 256 / 2 ^ Nat.log2 m

/-- `MagSq(z)` (R181). -/
def magSq (z : Cx) : Nat := (z.re * z.re + z.im * z.im).toNat

/-- `LogMag(z)` (R180). -/
def logMag (z : Cx) : Nat := log2q8 (magSq z) / 2

/-- `WinIdx(n, L, G)` (R164). -/
def winIdx (n len gen : Nat) : Nat := if n < gen then n else len - 1 - n

/-- A sample times a coefficient, rounded at 15 fraction bits and saturated: `Win16` and `Win32` (R166, R167). -/
def applyCoef (sat : Int → Int) (x : Cx) (w : Nat) : Cx :=
  ⟨sat (rndShr (x.re * w) 15), sat (rndShr (x.im * w) 15)⟩

/-- The exact sum of R182 over the windowed samples `y`, from sample `c` on. -/
def dft1Sum (nd d : Nat) : Nat → List Cx → Cx
  | _, [] => Cx.zero
  | c, y :: ys =>
    let w := tw32 nd (c * d % nd)
    let r := dft1Sum nd d (c + 1) ys
    ⟨y.re * w.re - y.im * w.im + r.re, y.re * w.im + y.im * w.re + r.im⟩

/-- `DFT1` on windowed samples: one rounding at the end (R182). -/
def dft1 (nd d : Nat) (y : List Cx) : Cx :=
  let acc := dft1Sum nd d 0 y
  ⟨sat32 (rndShr acc.re 31), sat32 (rndShr acc.im 31)⟩

end Sys2Proof.Machine
end

