-- ==== Sys2Proof/Machine/Transform.lean ====
section
/-! DEFINITION. The windowed transforms over the window tables (R166 to R168, R182, R187) and the commands FFT1D, FFT2D,
FFT3D (R176 to R178). -/

namespace Sys2Proof.Machine

/-- `Win16(x, n)` (R166). -/
def State.win16 (s : State) (n : Nat) (x : Cx) : Cx :=
  applyCoef sat16 x (tabGet s.win1d (winIdx n s.ns s.win1dInfo.gen.toNat) 0).toNat

/-- `Win32(x, n)` (R167). -/
def State.win32 (s : State) (n : Nat) (x : Cx) : Cx :=
  applyCoef sat32 x (tabGet s.win2d (winIdx n s.nd s.win2dInfo.gen.toNat) 0).toNat

/-- Applying a position-dependent function to a block, from position `n` on. -/
def mapPos (f : Nat → Cx → Cx) : Nat → List Cx → List Cx
  | _, [] => []
  | n, x :: xs => f n x :: mapPos f (n + 1) xs

/-- A list extended with `(0, 0)` to a length (R168). -/
def zeroPad (len : Nat) (x : List Cx) : List Cx := x ++ List.replicate (len - x.length) Cx.zero

/-- `RangeFft` (R187). -/
def State.rangeFft (s : State) (x : List Cx) : List Cx := fft16 s.nr (zeroPad s.nr (mapPos s.win16 0 x))

/-- `DopplerFft` (R187). -/
def State.dopplerFft (s : State) (x : List Cx) : List Cx := fft32 s.nd (mapPos s.win32 0 x)

/-- `DFT1(x, d)` (R182). -/
def State.dft1 (s : State) (x : List Cx) (d : Nat) : Cx := Machine.dft1 s.nd d (mapPos s.win32 0 x)

/-- Reading `n` `c16` samples (R176, R177). -/
def readC16s (src n : Nat) : Seqr (List Cx) := readEach (fun i => rdC16 (src + 4 * i)) (List.range n)

/-- Writing `c16` values (R176). -/
def writeC16s (dst : Nat) (xs : List Cx) : Seqr Unit := writeEach (fun k z => wrC16 (dst + 4 * k) z) 0 xs

/-- Reading `n` `c32` values (R178). -/
def readC32s (src n : Nat) : Seqr (List Cx) := readEach (fun i => rdC32 (src + 8 * i)) (List.range n)

/-- Writing `c32` values (R177, R178). -/
def writeC32s (dst : Nat) (xs : List Cx) : Seqr Unit := writeEach (fun k z => wrC32 (dst + 8 * k) z) 0 xs

/-- The body of FFT1D (R176). -/
def fft1dBody : Seqr Unit := do
  let s ← get
  require s.winOk1D .cfgWindow 0
  let x ← readC16s (s.operand 0).toNat s.ns
  writeC16s (s.operand 1).toNat (s.rangeFft x)

/-- FFT1D (R176). -/
def execFft1d (s : State) : Host.Outcome State Fault Refusal :=
  .next (command .fft1d (thenDone fft1dBody) s)

/-- The body of FFT2D (R177). -/
def fft2dBody : Seqr Unit := do
  let s ← get
  require s.winOk2D .cfgWindow 1
  let x ← readC16s (s.operand 0).toNat s.nd
  writeC32s (s.operand 1).toNat (s.dopplerFft x)

/-- FFT2D (R177). -/
def execFft2d (s : State) : Host.Outcome State Fault Refusal :=
  .next (command .fft2d (thenDone fft2dBody) s)

/-- The body of FFT3D (R178). -/
def fft3dBody : Seqr Unit := do
  let s ← get
  let x ← readC32s (s.operand 0).toNat Config.numAngleBins
  writeC32s (s.operand 1).toNat (azimuthFft x)

/-- FFT3D (R178). -/
def execFft3d (s : State) : Host.Outcome State Fault Refusal :=
  .next (command .fft3d (thenDone fft3dBody) s)

end Sys2Proof.Machine
end

