-- ==== Sys2Proof/Machine/Chirp.lean ====
section
/-! DEFINITION. The chirp-available event (R357), the per-chirp sequence (R232) with DC-signature calibration (R234, R235)
and the chirp counters (R236), and CHIRP.PROC (R231). -/

namespace Sys2Proof.Machine

/-! ## The event -/

/-- Checks 2 and 3 of the event: the timing Fatal, if there is one (R357). -/
def State.chirpFault (s : State) : Option Fatal :=
  if s.chirpToken then some ⟨.timingChirp, s.chirpCount.toNat⟩
  else if s.frameToken then some ⟨.timingFrame, s.chirpCount.toNat⟩
  else none

/-- An event on the input `chirp_avail` (R357): an accepted one starts a chirp none of whose samples is overwritten yet. -/
def State.chirpEvent (s : State) : State :=
  if s.mode = .running then
    match s.chirpFault with
    | some f => s.fatal f
    | none => { s with chirpToken := true, lateSamples := [] }
  else s

/-! ## DC-signature calibration -/

/-- `NEG_BIN_IDX`, signed (R41). -/
def State.dcNegBin (s : State) : Int := s.act.dcNeg.toInt

/-- `B = pos - neg + 1` (R234). -/
def State.dcBins (s : State) : Nat := ((s.act.dcPos.toNat : Int) - s.dcNegBin + 1).toNat

/-- `rb(b) = (neg + b) mod Nr` (R234). -/
def State.dcRangeBin (s : State) (b : Nat) : Nat := ((s.dcNegBin + b) % (s.nr : Int)).toNat

/-- `e(b)` (R51, R234). -/
def dcEntry (tx rx b : Nat) : Nat := (tx * Config.maxRxAnt + rx) * Config.dcMaxBins + b

/-- A value of the table as a complex number (R51). -/
def C32.val (c : C32) : Cx := ⟨c.re.toInt, c.im.toInt⟩

/-- A complex number as a value of the table (R51). -/
def C32.ofCx (z : Cx) : C32 := ⟨BitVec.ofInt 32 z.re, BitVec.ofInt 32 z.im⟩

/-- One bin accumulated (R234). -/
def State.dcAdd (s : State) (e : Nat) (x : Cx) : State :=
  let o := (tabGet s.dcSum e default).val
  { s with dcSum := tabSet s.dcSum e (C32.ofCx ⟨o.re + x.re, o.im + x.im⟩) }

/-- The window bins of a list accumulated in order (R234). -/
def State.dcAccumulate (s : State) (tx rx : Nat) (X : List Cx) : List Nat → State
  | [] => s
  | b :: bs => (s.dcAdd (dcEntry tx rx b) (listGet X (s.dcRangeBin b) Cx.zero)).dcAccumulate tx rx X bs

/-- One bin compensated (R234). -/
def dcSubtract (x m : Cx) : Cx := ⟨sat16 (x.re - m.re), sat16 (x.im - m.im)⟩

/-- The window bins of a list compensated in order (R234). -/
def State.dcCompensate (s : State) (tx rx : Nat) : List Nat → List Cx → List Cx
  | [], X => X
  | b :: bs, X =>
    let j := s.dcRangeBin b
    let m := (tabGet s.dcSum (dcEntry tx rx b) default).val
    s.dcCompensate tx rx bs (X.set j (dcSubtract (listGet X j Cx.zero) m))

/-- `DcStep` (R234). -/
def dcStep (X : List Cx) (tx rx : Nat) (acc sub : Bool) : Seqr (List Cx) := do
  let s ← get
  let bins := List.range s.dcBins
  if acc then do
    modify fun t => t.dcAccumulate tx rx X bins
    pure X
  else if sub then pure (s.dcCompensate tx rx bins X)
  else pure X

/-- The table entries in use (R235). -/
def State.dcEntries (s : State) : List Nat :=
  (List.range s.ntx).flatMap fun tx =>
    (List.range s.nrx).flatMap fun rx => (List.range s.dcBins).map fun b => dcEntry tx rx b

/-- A sum turned into a mean (R235). -/
def C32.mean (c : C32) (k : Nat) : C32 := C32.ofCx ⟨rndShr c.re.toInt k, rndShr c.im.toInt k⟩

/-- The sums of a list of entries turned into means (R235). -/
def State.dcMeans (s : State) (k : Nat) : List Nat → State
  | [] => s
  | e :: es => { s with dcSum := tabSet s.dcSum e ((tabGet s.dcSum e default).mean k) }.dcMeans k es

/-- `DcFinish()` (R235). -/
def State.dcFinish (s : State) : State := s.dcMeans (Nat.log2 s.act.dcAvg.toNat) s.dcEntries

/-- Step 5: one more chirp accumulated, and the means at the end of the cycle (R232, R235). -/
def State.dcCountUp (s : State) : State :=
  let t := { s with dcCount := s.dcCount + 1 }
  if t.dcCount.toNat = s.dcTarget then t.dcFinish else t

/-! ## The counters -/

/-- `ModuloChain()`: the counters after a chirp, and whether it was the last of the frame (R236). -/
def State.moduloChain (s : State) : State × Bool :=
  let t := s.txAntCount.toNat + 1
  let c := BitVec.ofNat 12 ((s.chirpCount.toNat + 1) % s.ncf)
  if t = s.ntx then
    let d := (s.dopBinCount.toNat + 1) % s.nd
    ({ s with txAntCount := 0, dopBinCount := BitVec.ofNat 11 d, chirpCount := c }, d == 0)
  else ({ s with txAntCount := BitVec.ofNat 2 t, chirpCount := c }, false)

/-! ## The steps of R232 -/

/-- The slot `s = c mod 2` of the running chirp (R232 step 1). -/
def State.chirpSlot (s : State) : Nat := s.chirpScr.c % 2

/-- Step 1 (R232). -/
def State.chirpStart (s : State) : State :=
  let acc := s.act.dcEnable && decide (s.dcCount.toNat < s.dcTarget)
  let sub := s.act.dcEnable && decide (s.dcCount.toNat = s.dcTarget)
  { s with
    chirpScr := ⟨s.chirpCount.toNat, s.txAntCount.toNat, s.dopBinCount.toNat, acc, sub, false⟩
    before := s.tables
    dcSum := if acc && s.dcCount == 0 then Vector.replicate 256 ⟨0, 0⟩ else s.dcSum }

/-- Step 4 for antenna `rx`, after its wait: the next fetch, the transform, the calibration, the output (R232). -/
def chirpAntenna (rx : Nat) : Seqr Unit := do
  let s ← get
  if rx + 1 < s.nrx then dmaRetrig ((rx + 1) % 2) (s.adcAddr (rx + 1) 0) (s.buf ((rx + 1) % 2)) else pure ()
  let x ← readC16s (s.buf (rx % 2)) s.ns
  let X ← dcStep (s.rangeFft x) s.chirpScr.tx rx s.chirpScr.acc s.chirpScr.sub
  writeC16s (s.buf (2 + s.chirpSlot) + 4 * (rx * s.nr)) X

/-- One step of the per-chirp sequence (R232). -/
def chirpPhase (q : ChirpPos) (byCmd : Bool) : Seqr Flow := do
  let s ← get
  let at_ (q : ChirpPos) : Pos := .chirp q byCmd
  let antenna (rx : Nat) : Seqr Flow := do
    chirpAntenna rx
    pure (.pos (at_ (if rx + 1 < s.nrx then .s4 (rx + 1) else .s5)))
  let mark : Seqr Flow := do
    modify fun t => { t with frameToken := true }
    pure (.pos (at_ .s9))
  let drainSecond : Seqr Flow := awaitThen (2 + s.chirpSlot) (at_ .s8set) mark
  let drain : Seqr Flow := awaitThen (2 + (1 - s.chirpSlot)) (at_ .s8second) drainSecond
  match q with
  | .s1 => do
    modify State.chirpStart
    pure (.pos (at_ .s2))
  | .s2 =>
    if 2 ≤ s.chirpScr.c then awaitThen (2 + s.chirpSlot) (at_ .s3) (pure (.pos (at_ .s3)))
    else pure (.pos (at_ .s3))
  | .s3 => do
    dmaRetrig 0 (s.adcAddr 0 0) (s.buf 0)
    pure (.pos (at_ (if 0 < s.nrx then .s4 0 else .s5)))
  | .s4 rx => awaitThen (rx % 2) (at_ (.s4body rx)) (antenna rx)
  | .s4body rx => antenna rx
  | .s5 => do
    modify fun t => if t.chirpScr.acc then t.dcCountUp else t
    pure (.pos (at_ .s6))
  | .s6 => do
    dmaRetrig (2 + s.chirpSlot) (s.buf (2 + s.chirpSlot)) (s.cubeAddr (s.chirpScr.tx * s.nrx) 0 s.chirpScr.d)
    modify fun t => { t with window := t.window.close (s.placeOf 4) }
    pure (.pos (at_ .s7))
  | .s7 => do
    modify fun t => let u := t.moduloChain; { u.1 with chirpScr := { t.chirpScr with last := u.2 } }
    pure (.pos (at_ .s8))
  | .s8 => if s.chirpScr.last then drain else pure (.pos (at_ .s9))
  | .s8second => drainSecond
  | .s8set => mark
  | .s9 => do
    modify fun t => { t with chirpToken := false }
    if s.chirpScr.last then pure (.pos (.frame .s1 byCmd)) else pure (.finish byCmd)

/-! ## CHIRP.PROC -/

/-- The body of CHIRP.PROC up to the start of the sequence (R231). -/
def chirpProcBody : Seqr Flow := do
  let s ← get
  match s.chirpFault with
  | some f => raise f.code f.info
  | none => do
    modify fun t => { t with chirpToken := true, lateSamples := [] }
    pure (.pos (.chirp .s1 true))

/-- CHIRP.PROC (R231). -/
def execChirpProc (s : State) : Host.Outcome State Fault Refusal :=
  .next (command .chirpProc chirpProcBody s)

end Sys2Proof.Machine
end

