-- ==== Sys2Proof/Machine/PeakGroup.lean ====
section
/-! DEFINITION. The peak grouper: the kernel and the selection mask (R272, R273) and PKGRP.RUN (R271). -/

namespace Sys2Proof.Machine

/-- The selection mask `M` (R273). -/
def groupMask (enRange enDoppler : Bool) : List (Int × Int) :=
  match enRange, enDoppler with
  | true, true => [(-1, -1), (-1, 0), (-1, 1), (0, -1), (0, 1), (1, -1), (1, 0), (1, 1)]
  | true, false => [(-1, 0), (1, 0)]
  | false, true => [(0, -1), (0, 1)]
  | false, false => []

/-- The raw list in use (R52). -/
def State.rawList (s : State) : List RawObj := s.rawObj.toList.take s.numRawObj.toNat

/-- The `PEAK` of the first raw entry for a cell, 0 if there is none (R272, scheme 1). -/
def rawPeak (l : List RawObj) (r d : Nat) : Nat :=
  match l.find? fun o => o.range.toNat == r && o.doppler.toNat == d with
  | some o => o.peak.toNat
  | none => 0

/-- `K(dr, dd)` for the candidate at `(r, d)` (R272). -/
def groupKernel (r d : Nat) (off : Int × Int) : Seqr Nat := do
  let s ← get
  let rr : Int := (r : Int) + off.1
  let dd : Nat := (((d : Int) + off.2) % (s.nd : Int)).toNat
  if rr < 0 ∨ (s.nr : Int) ≤ rr then pure 0
  else if s.act.pkScheme then pure (rawPeak s.rawList rr.toNat dd)
  else rdU16 (s.detAddr rr.toNat dd)

/-- The candidate at `(r, d)` is not below any neighbour of the mask (R271). -/
def groupKeeps (r d : Nat) : List (Int × Int) → Seqr Bool
  | [] => pure true
  | off :: rest => do
    let centre ← groupKernel r d (0, 0)
    let near ← groupKernel r d off
    let others ← groupKeeps r d rest
    pure (decide (near ≤ centre) && others)

/-- An object appended to the output list, or counted when the list is full; the flag says whether it was appended (R271,
R296). -/
def State.addObj (s : State) (o : ObjOut) : State × Bool :=
  if s.numObjOut.toNat < Config.maxObjOut then
    ({ s with objOut := tabSet s.objOut s.numObjOut.toNat o, numObjOut := s.numObjOut + 1 }, true)
  else ({ s with objTruncCount := s.objTruncCount + 1 }, false)

/-- One candidate of PKGRP.RUN (R271). -/
def groupOne (o : RawObj) : Seqr Unit := do
  let s ← get
  if o.range < s.act.pkMin ∨ s.act.pkMax < o.range then pure ()
  else do
    let keep ← groupKeeps o.range.toNat o.doppler.toNat (groupMask s.act.pkRange s.act.pkDoppler)
    if keep then modify fun t => (t.addObj ⟨o.range, o.doppler, o.peak, 0, 0, 0⟩).1
    else pure ()

/-- The candidates in list order (R271). -/
def groupAll : List RawObj → Seqr Unit
  | [] => pure ()
  | o :: os => do
    groupOne o
    groupAll os

/-- The body of PKGRP.RUN without its result register (R271, R327). The stored entries of `OBJOUT` at and above the new count
stay as they are, the model's choice; a host read of them is a free value (R53, log entry 24). -/
def groupRun : Seqr Unit := do
  modify fun t => { t with numObjOut := 0 }
  let s ← get
  groupAll s.rawList

/-- The body of PKGRP.RUN (R271). -/
def pkgrpBody : Seqr Unit := do
  groupRun
  let s ← get
  setRes0 s.numObjOut.toNat

/-- PKGRP.RUN (R271). -/
def execPkgrpRun (s : State) : Host.Outcome State Fault Refusal :=
  .next (command .pkgrpRun (thenDone pkgrpBody) s)

end Sys2Proof.Machine
end

