-- ==== Sys2Proof/Machine/Angle.lean ====
section
/-! DEFINITION. The azimuth stage: from spectrum to coordinates (R298 to R303), ANGLE.OBJ (R291) and XY.EST (R297). -/

namespace Sys2Proof.Machine

/-! ## From spectrum to coordinates -/

/-- What `XyEst` depends on besides the spectrum and the range index: `RANGE_RES`, `XYZ_QFORMAT`, `MOB_CFG` (R303). -/
structure XyCfg where
  rangeRes : Nat
  q : Nat
  enable : Bool
  thresh : Nat
deriving DecidableEq, Repr

/-- The active values of these fields. -/
def State.xyCfg (s : State) : XyCfg :=
  ⟨s.act.rangeRes.toNat, s.act.xyzQ.toNat, s.act.mobEnable, s.act.mobThresh.toNat⟩

/-- `RangeQ(r)` (R300). -/
def rangeQ (c : XyCfg) (r : Nat) : Int := rndShr ((r : Int) * c.rangeRes) (20 - c.q)

/-- `s(k)`, the signed spatial frequency (R299). -/
def spatialFreq (k : Nat) : Int := if k < Config.numAngleBins / 2 then k else (k : Int) - Config.numAngleBins

/-- `Xy(k, r)` (R300). -/
def xyOf (c : XyCfg) (k r : Nat) : Int × Int :=
  let range := rangeQ c r
  let x := rndShr (range * 2 * spatialFreq k) 6
  (x, isqrt (range * range - x * x).toNat)

/-- The first index, among those of a list, at which the spectrum is greatest, starting from `best` (R298, R302). -/
def bestOf (P : List Nat) : Nat → List Nat → Nat
  | best, [] => best
  | best, k :: ks => if listGet P best 0 < listGet P k 0 then bestOf P k ks else bestOf P best ks

/-- `k1`: the least index of the greatest value (R298). -/
def firstPeak (P : List Nat) : Nat := bestOf P 0 (List.range P.length)

/-- One walk of R301 from bin `k` in steps of `dir` bins, for at most `fuel` steps, while the next bin is strictly smaller;
the bin reached and the fuel left. -/
def walk (P : List Nat) (dir : Nat) : Nat → Nat → Nat × Nat
  | 0, k => (k, 0)
  | fuel + 1, k =>
    let j := (k + dir) % Config.numAngleBins
    if listGet P j 0 < listGet P k 0 then walk P dir fuel j else (k, fuel + 1)

/-- `MainLobe(P, k1)`: `(l, rr, steps)`; a step to the left is one of `Na - 1` bins to the right (R301). -/
def mainLobe (P : List Nat) (k1 : Nat) : Nat × Nat × Nat :=
  let left := walk P (Config.numAngleBins - 1) (Config.numAngleBins - 1) k1
  let right := walk P 1 left.2 k1
  (left.1, right.1, Config.numAngleBins - 1 - right.2)

/-- The second peak: the bin and whether it qualifies (R302). -/
def secondPeak (c : XyCfg) (P : List Nat) (k1 : Nat) : Option Nat :=
  let (_, rr, steps) := mainLobe P k1
  let n := Config.numAngleBins - 1 - steps
  if c.enable && decide (0 < n) then
    let bins := (List.range n).map fun j => (rr + 1 + j) % Config.numAngleBins
    let k2 := bestOf P ((rr + 1) % Config.numAngleBins) bins
    if c.thresh * listGet P k1 0 < listGet P k2 0 * 32768 then some k2 else none
  else none

/-- `XyEst(P, r)`: the first pair and, when there is one, the second (R303). -/
def xyEst (c : XyCfg) (P : List Nat) (r : Nat) : (Int × Int) × Option (Int × Int) :=
  let k1 := firstPeak P
  (xyOf c k1 r, (secondPeak c P k1).map fun k2 => xyOf c k2 r)

/-! ## ANGLE.OBJ -/

/-- `ds`, the signed Doppler bin (R293). -/
def signedBin (nd d : Nat) : Int := if d < nd / 2 then d else (d : Int) - nd

/-- `Comp(z, d)`: the compensation of the second transmitter (R293). -/
def phaseComp (nd d : Nat) (z : Cx) : Cx :=
  let m := cmulQ31 z (tw32 (2 * nd) (signedBin nd d % (2 * nd : Nat)).toNat)
  ⟨sat32 m.re, sat32 m.im⟩

/-- The value of virtual antenna `v`: the single-point DFT of its row of `AZIN`, compensated for the second transmitter
(R291 to R293). -/
def antennaValue (d v : Nat) : Seqr Cx := do
  let s ← get
  let row ← readC16s (s.buf 12 + 4 * (v * s.nd)) s.nd
  let z := s.dft1 row d
  pure (if s.ntx = 2 ∧ s.nrx ≤ v then phaseComp s.nd d z else z)

/-- The stored form of a coordinate (R300). -/
def coord (v : Int) : Half := BitVec.ofInt 16 (sat16 v)

/-- The object list after an estimate: the object itself, then the extra object if there is one; the number appended
(R291, R296). -/
def State.placeXy (s : State) (i : Nat) (est : (Int × Int) × Option (Int × Int)) : State × Nat :=
  let o := tabGet s.objOut i default
  let t := { s with objOut := tabSet s.objOut i { o with x := coord est.1.1, y := coord est.1.2, z := 0 } }
  match est.2 with
  | none => (t, 0)
  | some xy =>
    let u := t.addObj ⟨o.range, o.doppler, o.peak, coord xy.1, coord xy.2, 0⟩
    (u.1, u.2.toNat)

/-- Writing an estimate; the number of objects appended (R291). -/
def angleWrite (i : Nat) (est : (Int × Int) × Option (Int × Int)) : Seqr Nat :=
  modifyGet fun s => let u := s.placeXy i est; (u.2, u.1)

/-- ANGLE.OBJ after its fetch (R291): the antenna values, zero padded, transformed, and the estimate written. -/
def angleFetched (i : Nat) : Seqr Nat := do
  let s ← get
  let o := tabGet s.objOut i default
  let az ← readEach (antennaValue o.doppler.toNat) (List.range s.nv)
  let spectrum := (azimuthFft (zeroPad Config.numAngleBins az)).map magSq
  angleWrite i (xyEst s.xyCfg spectrum o.range.toNat)

/-- The body of ANGLE.OBJ (R291): the checks, the shortcut of a single antenna (R295), or the fetch and, when its transfer
is complete, the rest. `resume` is the position after the fetch and `k` what follows the body. -/
def angleRun (i : Nat) (resume : Pos) (k : Nat → Seqr Flow) : Seqr Flow := do
  let s ← get
  require (decide (i < s.numObjOut.toNat)) .badIndex i
  let r := (tabGet s.objOut i default).range.toNat
  if s.nv = 1 then do
    let a ← angleWrite i ((0, rangeQ s.xyCfg r), none)
    k a
  else do
    require s.winOk2D .cfgWindow 1
    programPipeline [10]
    dmaRetrig 10 (s.cubeAddr 0 r 0) (s.buf 12)
    awaitThen 10 resume (do
      let a ← angleFetched i
      k a)

/-- The end of the command ANGLE.OBJ: `RES[0]` is the number of objects appended (R291). -/
def angleDone (appended : Nat) : Seqr Flow := do
  setRes0 appended
  pure (.finish true)

/-- The command after its fetch. -/
def angleResume (i : Nat) : Seqr Flow := do
  let a ← angleFetched i
  angleDone a

/-- ANGLE.OBJ (R291). -/
def execAngleObj (i : Nat) (s : State) : Host.Outcome State Fault Refusal :=
  .next (command (.angleObj i) (angleRun i (.angle i) angleDone) s)

/-! ## XY.EST -/

/-- `RdU64` (R85). -/
def rdU64 (addr : Nat) : Seqr Nat := do
  aligned addr 8
  memRead addr 8

/-- Two coordinates in a result register: `x` low, `y` high (R297). -/
def packXy (xy : Int × Int) : Nat := lowBits 16 (sat16 xy.1) + 2 ^ 16 * lowBits 16 (sat16 xy.2)

/-- The value of `RES[1]`: 0, or the second pair with bit 31 set (R297). -/
def packSecond : Option (Int × Int) → Nat
  | none => 0
  | some xy => 2 ^ 31 ||| packXy xy

/-- The body of XY.EST (R297). -/
def xyEstBody (r : Nat) : Seqr Unit := do
  let s ← get
  require (decide (r < s.nr)) .badIndex r
  let src := (s.operand 0).toNat
  let P ← readEach (fun k => rdU64 (src + 8 * k)) (List.range Config.numAngleBins)
  let est := xyEst s.xyCfg P r
  setRes0 (packXy est.1)
  setRes1 (packSecond est.2)

/-- XY.EST (R297). -/
def execXyEst (r : Nat) (s : State) : Host.Outcome State Fault Refusal :=
  .next (command (.xyEst r) (thenDone (xyEstBody r)) s)

end Sys2Proof.Machine
end

