-- ==== Sys2Proof/Machine/Cfar.lean ====
section
/-! DEFINITION. The CFAR detector (R250, R254) and its two uses, CFAR.DOP (R255) and CFAR.RNG (R256). -/

namespace Sys2Proof.Machine

/-- The sum of the window cells `x[(i + sign*k) mod N]`, `k` from `g + 1` to `g + w` (R254). -/
def windowSum (x : List Nat) (i g w : Nat) (sign : Int) : Nat :=
  ((List.range w).map fun j =>
    listGet x (((i : Int) + sign * ((g + 1 + j : Nat) : Int)) % (x.length : Int)).toNat 0).sum

/-- `CfarNoise(x, i)` (R254). -/
def cfarNoise (c : CfarCfg) (x : List Nat) (i : Nat) : Nat :=
  let g := c.guardLen.toNat
  let w := c.winLen.toNat
  let availL := c.cyclic || decide (g + w ≤ i)
  let availR := c.cyclic || decide (i + g + w + 1 ≤ x.length)
  let sL := if availL then windowSum x i g w (-1) else 0
  let sR := if availR then windowSum x i g w 1 else 0
  let sum :=
    if !(availL && availR) then 2 * (sL + sR)
    else if c.avgMode = 0 then sL + sR
    else if c.avgMode = 1 then 2 * max sL sR
    else 2 * min sL sR
  sum / 2 ^ c.noiseDivShift.toNat

/-- `Cfar(x)`: the ascending list of the detected indices (R254). -/
def cfar (c : CfarCfg) (x : List Nat) : List Nat :=
  (List.range x.length).filter fun i => decide (cfarNoise c x i + c.threshold.toNat < listGet x i 0)

/-- Reading `n` unsigned 16-bit values (R255, R256). -/
def readU16s (src n : Nat) : Seqr (List Nat) := readEach (fun i => rdU16 (src + 2 * i)) (List.range n)

/-- The body of CFAR.DOP (R255). -/
def cfarDopBody : Seqr Unit := do
  let s ← get
  let x ← readU16s (s.operand 0).toNat s.nd
  let found := cfar s.act.cfarDop x
  modify fun t => t.bmpMarkAll found
  setRes0 found.length

/-- CFAR.DOP (R255). -/
def execCfarDop (s : State) : Host.Outcome State Fault Refusal :=
  .next (command .cfarDop (thenDone cfarDopBody) s)

/-- One detection appended to the raw list, or counted when the list is full (R256, R257). -/
def State.addRaw (s : State) (range doppler peak : Nat) : State :=
  if s.numRawObj.toNat < Config.maxRawObj then
    { s with
      rawObj := tabSet s.rawObj s.numRawObj.toNat
        ⟨BitVec.ofNat 16 range, BitVec.ofNat 16 doppler, BitVec.ofNat 16 peak⟩
      numRawObj := s.numRawObj + 1 }
  else { s with rawTruncCount := s.rawTruncCount + 1 }

/-- The detections of one Doppler line appended in order (R256). -/
def State.addRaws (s : State) (doppler : Nat) (x : List Nat) : List Nat → State
  | [] => s
  | i :: is => (s.addRaw i doppler (listGet x i 0)).addRaws doppler x is

/-- The body of CFAR.RNG on the line at `src`, answering how many detections were appended and how many discarded
(R256). -/
def cfarRngLine (src d : Nat) : Seqr (Nat × Nat) := do
  let s ← get
  require (decide (d < s.nd)) .badIndex d
  let x ← readU16s src s.nr
  let found := cfar s.act.cfarRng x
  modify fun t => t.addRaws d x found
  let kept := min found.length (Config.maxRawObj - s.numRawObj.toNat)
  pure (kept, found.length - kept)

/-- The body of CFAR.RNG (R256). -/
def cfarRngBody (d : Nat) : Seqr Unit := do
  let s ← get
  let (a, t) ← cfarRngLine (s.operand 0).toNat d
  setRes0 a
  setRes1 t

/-- CFAR.RNG (R256). -/
def execCfarRng (d : Nat) (s : State) : Host.Outcome State Fault Refusal :=
  .next (command (.cfarRng d) (thenDone (cfarRngBody d)) s)

end Sys2Proof.Machine
end

