-- ==== Sys2Proof/Machine/Output.lean ====
section
/-! DEFINITION. Output assembly: the payloads (R331 to R334) and OUT.ASM (R330). -/

namespace Sys2Proof.Machine

/-- The 16-bit fields of the detected-objects payload, in address order (R331). -/
def State.objFields (s : State) : List Nat :=
  [s.numObjOut.toNat % 2 ^ 16, s.act.xyzQ.toNat] ++
    (s.objOut.toList.take s.numObjOut.toNat).flatMap fun o =>
      [o.range.toNat, o.doppler.toNat, o.peak.toNat, o.x.toNat, o.y.toNat, o.z.toNat]

/-- The eight words of the statistics payload; words 5 to 7 are free values (R333, U8). -/
def State.statsWords (s : State) : List Nat :=
  [s.frameCount.toNat, s.droppedFrames.toNat, s.rawTruncCount.toNat, s.objTruncCount.toNat, s.numRawObj.toNat,
    (Config.statsWord s.tick 5).toNat, (Config.statsWord s.tick 6).toNat, (Config.statsWord s.tick 7).toNat]

/-- A descriptor (R334). -/
def outDesc (type length address : Nat) : OutDesc :=
  ⟨BitVec.ofNat 32 type, BitVec.ofNat 32 length, BitVec.ofNat 32 address⟩

/-- The range profile: each cell of Doppler bin 0 copied in turn (R332). -/
def copyRangeProfile (s : State) : List Nat → Seqr Unit
  | [] => pure ()
  | r :: rs => do
    let v ← rdU16 (s.detAddr r 0)
    wrU16 (s.buf 14 + 2 * r) v
    copyRangeProfile s rs

/-- The noise profile (R332). -/
def writeNoiseProfile (s : State) : Seqr Unit := do
  let x ← readEach (fun r => rdU16 (s.detAddr r 0)) (List.range s.nr)
  let noise := (List.range s.nr).map fun r => (satu16 (cfarNoise s.act.cfarRng x r)).toNat
  writeEach (fun r v => wrU16 (s.buf 15 + 2 * r) v) 0 noise

/-- A payload: when it is selected, its bytes are written and entry `k` of the descriptor table describes it; the number of
the next entry (R330). -/
def payload (selected : Bool) (work : Seqr Unit) (d : OutDesc) (k : Nat) : Seqr Nat := do
  if selected then do
    work
    modify fun t => { t with outDesc := tabSet t.outDesc k d }
    pure (k + 1)
  else pure k

/-- The end of a published frame (R330): `FRAME_DONE`, which opens the results window (R102). -/
def State.publish (s : State) (k : Nat) : State :=
  State.raiseIrq { s with numOutDesc := BitVec.ofNat 32 k, window := s.published } irqFrameDone

/-- A dropped frame (R330, R356): it puts `OBJOUT` alone inside the results window (R330 (a)). -/
def State.drop (s : State) : State :=
  State.raiseIrq
    { s with
      droppedFrames := s.droppedFrames + 1
      numOutDesc := 0
      window := { s.window with objs := true } } irqFrameDropped

/-- The body of OUT.ASM (R330). -/
def assembleOutput : Seqr Unit := do
  let s ← get
  if s.logAvail then do
    let mon (b : Nat) : Bool := s.act.monSel.getLsbD b
    let k ← payload true (writeEach (fun j v => wrU16 (s.buf 16 + 2 * j) v) 0 s.objFields)
      (outDesc 1 (4 + 12 * s.numObjOut.toNat) (s.buf 16)) 0
    let k ← payload (mon 0) (copyRangeProfile s (List.range s.nr)) (outDesc 2 (2 * s.nr) (s.buf 14)) k
    let k ← payload (mon 1) (writeNoiseProfile s) (outDesc 3 (2 * s.nr) (s.buf 15)) k
    let k ← payload (mon 2) (pure ()) (outDesc 4 (8 * s.nr * s.nv) (s.buf 13)) k
    let k ← payload (mon 3) (pure ()) (outDesc 5 (2 * s.nr * s.nd) (s.buf 5)) k
    let k ← payload (mon 4) (writeEach (fun j v => memWrite (s.buf 17 + 4 * j) 4 v) 0 s.statsWords)
      (outDesc 6 32 (s.buf 17)) k
    modify fun t => t.publish k
  else modify State.drop

/-- OUT.ASM (R330). -/
def execOutAsm (s : State) : Host.Outcome State Fault Refusal :=
  .next (command .outAsm (thenDone assembleOutput) s)

end Sys2Proof.Machine
end

