-- ==== Sys2Proof/Machine/Frame.lean ====
section
/-! DEFINITION. The inter-frame sequence (R322 to R328) and FRAME.PROC (R321). -/

namespace Sys2Proof.Machine

/-- The work items of the Doppler pass, `M = Nr * Nv` (R323). -/
def State.dopItems (s : State) : Nat := s.nr * s.nv

/-- The Doppler fetch of item `idx` started (R323). -/
def dopFetch (s : State) (idx : Nat) : Seqr Unit :=
  dmaRetrig (4 + idx % 2) (s.cubeAddr (idx % s.nv) (idx / s.nv) 0) (s.buf (6 + idx % 2))

/-- The accumulation vector after one antenna's spectrum: zeroed first at `v = 0` (R323). -/
def accumulate (first : Bool) (nd : Nat) (acc : List Nat) (X : List Cx) : List Nat :=
  (List.range nd).map fun d => (if first then 0 else listGet acc d 0) + logMag (listGet X d Cx.zero)

/-- Item `idx` of the Doppler pass after its wait, up to the end of the accumulation (R323, R324). -/
def dopItem (idx : Nat) : Seqr Unit := do
  let s ← get
  if idx + 1 < s.dopItems then dopFetch s (idx + 1) else pure ()
  let x ← readC16s (s.buf (6 + idx % 2)) s.nd
  let X := s.dopplerFft x
  wrC32 (s.heatAddr (idx / s.nv) (idx % s.nv)) (listGet X 0 Cx.zero)
  modify fun t =>
    { t with
      frameScr := { t.frameScr with acc := accumulate (idx % s.nv == 0) s.nd t.frameScr.acc X }
      window := t.window.close (s.placeOf 13) }

/-- The end of range bin `r`, after its wait: `SUMLOG` written, the Doppler CFAR, the row sent (R323, R325). -/
def dopTail (r : Nat) : Seqr Unit := do
  let s ← get
  let t := r % 2
  writeEach (fun d v => wrU16 (s.buf (8 + t) + 2 * d) v) 0 s.frameScr.acc
  modify fun u => u.bmpMarkAll (cfar s.act.cfarDop s.frameScr.acc)
  dmaRetrig (6 + t) (s.buf (8 + t)) (s.detAddr r 0)
  modify fun u => { u with window := u.window.close (s.placeOf 5) }

/-- The lines of the range pass: the fetch of line `j`, Doppler bin `d` (R326). -/
def lineFetch (s : State) (j d : Nat) : Seqr Unit :=
  dmaRetrig (8 + j % 2) (s.detAddr 0 d) (s.buf (10 + j % 2))

/-- Line `j` of the range pass after its wait (R326). -/
def lineItem (j : Nat) : Seqr Unit := do
  let s ← get
  let dcur := s.frameScr.dcur
  let dnext ← if j + 1 < s.frameScr.lines then do
      let d ← bmpAdvance
      lineFetch s (j + 1) d
      pure d
    else pure dcur
  let _ ← cfarRngLine (s.buf (10 + j % 2)) dcur
  modify fun t => { t with frameScr := { t.frameScr with dcur := dnext } }

/-- One step of the inter-frame sequence (R322). Step 1 lowers the counts of the object lists to 0; the stored entries stay, the
model's choice, and a host read of them is a free value (R52, R53, log entry 24). -/
def framePhase (q : FramePos) (byCmd : Bool) : Seqr Flow := do
  let s ← get
  let at_ (q : FramePos) : Pos := .frame q byCmd
  let nextItem (idx : Nat) : Flow := .pos (at_ (if idx + 1 < s.dopItems then .s2 (idx + 1) else .s3))
  let tail (idx : Nat) : Seqr Flow := do
    dopTail (idx / s.nv)
    pure (nextItem idx)
  let item (idx : Nat) : Seqr Flow := do
    dopItem idx
    if idx % s.nv + 1 = s.nv then
      if 2 ≤ idx / s.nv then awaitThen (6 + idx / s.nv % 2) (at_ (.s2tail idx)) (tail idx)
      else tail idx
    else pure (nextItem idx)
  let line (j : Nat) : Seqr Flow := do
    lineItem j
    pure (.pos (at_ (if j + 1 < s.frameScr.lines then .s4 (j + 1) else .s5)))
  let nextObj (i : Nat) : Flow := .pos (at_ (if i + 1 < s.frameScr.n0 then .s6 (i + 1) else .s7))
  match q with
  | .s1 => do
    modify fun t =>
      { t.bmpClear with
        numRawObj := 0
        numObjOut := 0
        window := { t.window with raw := false, objs := false } }
    programPipeline [4, 5, 6, 7, 8, 9, 10]
    pure (.pos (at_ .s2start))
  | .s2start =>
    if 0 < s.dopItems then do
      dopFetch s 0
      pure (.pos (at_ (.s2 0)))
    else pure (.pos (at_ .s3))
  | .s2 idx => awaitThen (4 + idx % 2) (at_ (.s2body idx)) (item idx)
  | .s2body idx => item idx
  | .s2tail idx => tail idx
  | .s3 => awaitThen 6 (at_ .s3second) (awaitThen 7 (at_ .s4start) (pure (.pos (at_ .s4start))))
  | .s3second => awaitThen 7 (at_ .s4start) (pure (.pos (at_ .s4start)))
  | .s4start => do
    let n := s.bmpCount
    if 0 < n then do
      let d ← bmpAdvance
      lineFetch s 0 d
      modify fun t => { t with frameScr := { t.frameScr with lines := n, dcur := d } }
      pure (.pos (at_ (.s4 0)))
    else pure (.pos (at_ .s5))
  | .s4 j => awaitThen (8 + j % 2) (at_ (.s4body j)) (line j)
  | .s4body j => line j
  | .s5 => do
    groupRun
    pure (.pos (at_ .s6start))
  | .s6start => do
    let n0 := s.numObjOut.toNat
    modify fun t => { t with frameScr := { t.frameScr with n0 := n0 } }
    pure (.pos (at_ (if 0 < n0 then .s6 0 else .s7)))
  | .s6 i => angleRun i (at_ (.s6body i)) (fun _ => pure (nextObj i))
  | .s6body i => do
    let _ ← angleFetched i
    pure (nextObj i)
  | .s7 => do
    assembleOutput
    pure (.pos (at_ .s8))
  | .s8 => do
    modify fun t => { t with frameCount := t.frameCount + 1, frameToken := false }
    pure (.finish byCmd)

/-- The body of FRAME.PROC up to the start of the sequence (R321). -/
def frameProcBody : Seqr Flow := do
  let s ← get
  require s.winOk2D .cfgWindow 1
  modify fun t => { t with frameToken := true, before := t.tables }
  pure (.pos (.frame .s1 true))

/-- FRAME.PROC (R321). -/
def execFrameProc (s : State) : Host.Outcome State Fault Refusal :=
  .next (command .frameProc frameProcBody s)

end Sys2Proof.Machine
end

