-- ==== Sys2Proof/Machine/Window.lean ====
section
/-! DEFINITION. The window tables and WIN.GEN (R49, R162). -/

namespace Sys2Proof.Machine

/-- The largest `oneQ` of a table (R162 check 4). -/
def maxOneQ : WinTable → Nat
  | .win1d => 2 ^ 15
  | .win2d => 2 ^ 31

/-- Entries `0` to `g - 1` of a table set to `f`, the others kept (R162). -/
def tabFill {α : Type} {n : Nat} (t : Vector α n) (f : Nat → α) : Nat → Vector α n
  | 0 => t
  | g + 1 => tabSet (tabFill t f g) g (f g)

/-- The registers of a table generated with length `len`, `gen` coefficients and `oneQ` (R162). -/
def WinInfo.generated (len gen : Nat) (oneQ : Word) : WinInfo :=
  { len := BitVec.ofNat 11 len, gen := BitVec.ofNat 11 gen, valid := true, oneQ := oneQ }

/-- The effect of WIN.GEN on the table it selects (R162). -/
def State.generate (s : State) (table : WinTable) (kind : WinKind) (len gen : Nat) (oneQ : Word) : State :=
  match table with
  | .win1d =>
    { s with
      win1d := tabFill s.win1d (fun n => BitVec.ofNat 16 (winCoef kind len n oneQ.toNat)) gen
      win1dInfo := WinInfo.generated len gen oneQ }
  | .win2d =>
    { s with
      win2d := tabFill s.win2d (fun n => BitVec.ofNat 32 (winCoef kind len n oneQ.toNat)) gen
      win2dInfo := WinInfo.generated len gen oneQ }

/-- The body of WIN.GEN (R162): the operand checks in order, then the table. The upper bits of `ARG[0]` and `ARG[1]` are
zero exactly when the whole register is below `2^11` (R116). -/
def winGenBody (table : WinTable) (kind : WinKind) : Seqr Unit := do
  let s ← get
  let len := (s.operand 0).toNat
  let gen := (s.operand 1).toNat
  let oneQ := s.operand 2
  require (kind != .notAWindow) .cmdOperand 0xFF
  require (decide (len < 2 ^ 11) && decide (2 ≤ len) && decide (len ≤ Config.maxFftSize)) .cmdOperand 0
  require (decide (gen < 2 ^ 11) && decide (1 ≤ gen) && decide (gen ≤ min len 512)) .cmdOperand 1
  require (decide (1 ≤ oneQ.toNat) && decide (oneQ.toNat ≤ maxOneQ table)) .cmdOperand 2
  modify fun t => t.generate table kind len gen oneQ

/-- WIN.GEN (R162). -/
def execWinGen (table : WinTable) (kind : WinKind) (s : State) : Host.Outcome State Fault Refusal :=
  .next (command (.winGen table kind) (thenDone (winGenBody table kind)) s)

end Sys2Proof.Machine
end

