-- ==== Sys2Proof/Machine/Dispatch.lean ====
section
/-! DEFINITION. One arm per command (R114). -/

namespace Sys2Proof.Machine

/-- The meaning of a command: stages 2 to 5 of R130. -/
def exec (i : Instr) (s : State) : Host.Outcome State Fault Refusal :=
  match i with
  | .nop => Sys2Proof.Machine.execNop s
  | .cfgCommit => Sys2Proof.Machine.execCfgCommit s
  | .runStart => Sys2Proof.Machine.execRunStart s
  | .runStop => Sys2Proof.Machine.execRunStop s
  | .bmpReset => Sys2Proof.Machine.execBmpReset s
  | .bmpSet index => Sys2Proof.Machine.execBmpSet index s
  | .bmpTest index => Sys2Proof.Machine.execBmpTest index s
  | .bmpNext => Sys2Proof.Machine.execBmpNext s
  | .winGen table kind => Sys2Proof.Machine.execWinGen table kind s
  | .fft1d => Sys2Proof.Machine.execFft1d s
  | .fft2d => Sys2Proof.Machine.execFft2d s
  | .fft3d => Sys2Proof.Machine.execFft3d s
  | .dmaCfg p nullSrc nullDst prio ien => Sys2Proof.Machine.execDmaCfg p nullSrc nullDst prio ien s
  | .dmaStart p => Sys2Proof.Machine.execDmaStart p s
  | .dmaRetrig p => Sys2Proof.Machine.execDmaRetrig p s
  | .dmaWait p => Sys2Proof.Machine.execDmaWait p s
  | .cfarDop => Sys2Proof.Machine.execCfarDop s
  | .cfarRng d => Sys2Proof.Machine.execCfarRng d s
  | .pkgrpRun => Sys2Proof.Machine.execPkgrpRun s
  | .angleObj k => Sys2Proof.Machine.execAngleObj k s
  | .xyEst r => Sys2Proof.Machine.execXyEst r s
  | .chirpProc => Sys2Proof.Machine.execChirpProc s
  | .frameProc => Sys2Proof.Machine.execFrameProc s
  | .outAsm => Sys2Proof.Machine.execOutAsm s

end Sys2Proof.Machine
end

