-- ==== Sys2Proof/Machine/Sequencer.lean ====
section
/-! DEFINITION. The sequencer's step (R4, R25, R364): the positions inside commands and sequences, and accepting a command
(R28). -/

namespace Sys2Proof.Machine

/-- The work at a position (R25). -/
def runPos : Pos → Seqr Flow
  | .complete => pure (.finish true)
  | .stop p => stopFrom p
  | .angle i => angleResume i
  | .chirp q byCmd => chirpPhase q byCmd
  | .frame q byCmd => framePhase q byCmd

/-- The Fatal of a word that does not decode (R112). -/
def illegal (w : Word) : Fatal := ⟨.cmdIllegal, w.toNat / 2 ^ 8⟩

/-- One step of the sequencer; the state itself when it has no enabled step (R4, R364). -/
def seqStep (s : State) : Host.Outcome State Fault Refusal :=
  match s.seq with
  | .halt => .next s
  | .idle =>
    if s.mode = .running ∧ s.chirpToken then .next { s with seq := .pos (.chirp .s1 false) }
    else .next s
  | .cmd w =>
    match decode w with
    | .ok i => exec i s
    | .error _ => .next (s.fatal (illegal w))
  | .pos q => .next (settle (runPos q) s)
  | .wait p resume =>
    if (s.chan p).xfer.isDone then .next { s.consume p with seq := .pos resume }
    else .next s

/-- The sequencer has an enabled step (R357, R364). -/
def State.seqEnabled (s : State) : Bool :=
  match s.seq with
  | .halt => false
  | .idle => s.mode == .running && s.chirpToken
  | .cmd _ => true
  | .pos _ => true
  | .wait p _ => (s.chan p).xfer.isDone

/-- A write of a command word (R28): ignored in `HALTED`, a Fatal while busy, else accepted. -/
def State.acceptCmd (s : State) (w : Word) : State :=
  if s.mode = .halted then s
  else if s.seq.busy then s.fatal ⟨.cmdOverrun, opcOf w⟩
  else { s with seq := .cmd w, argPast := Vector.replicate 6 [] }

end Sys2Proof.Machine
end

