-- ==== Sys2Proof/Machine/HostPort.lean ====
section
/-! DEFINITION. The host's two ports: the register map (R21, R22 and the field tables of R26 to R54) and the memory port
(R82, R101, R102). -/

namespace Sys2Proof.Machine

/-! ## Reading a register -/

/-- A number as the value of a register. -/
def reg (n : Nat) : Word := BitVec.ofNat 32 n

/-- `CFAR_*_CFG` (R38). -/
def CfarCfg.cfgReg (c : CfarCfg) : Word :=
  reg (c.avgMode.toNat + bitAt 2 c.cyclic + 2 ^ 4 * c.noiseDivShift.toNat + 2 ^ 8 * c.guardLen.toNat
    + 2 ^ 16 * c.winLen.toNat)

/-- `CFAR_*_THR` (R38). -/
def CfarCfg.thrReg (c : CfarCfg) : Word := reg c.threshold.toNat

/-- Two halves of a register, the low one first. -/
def halves (lo hi : Half) : Word := reg (lo.toNat + 2 ^ 16 * hi.toNat)

/-- `WINt_INFO` (R49). -/
def WinInfo.infoReg (w : WinInfo) : Word := reg (w.len.toNat + 2 ^ 16 * w.gen.toNat + bitAt 31 w.valid)

/-- Register `j` of the group of a channel (R47). -/
def Chan.readReg (c : Chan) (j : Nat) : Word :=
  match j with
  | 0 => c.desc.src
  | 1 => c.desc.dst
  | 2 => halves c.desc.esize c.desc.ecount
  | 3 => c.desc.sstride
  | 4 => c.desc.dstride
  | 5 => reg (bitAt 0 c.prio + bitAt 1 c.ien + bitAt 2 c.srcBound + bitAt 3 c.dstBound)
  | 6 => reg (bitAt 0 c.configured + bitAt 1 c.xfer.isBusy + bitAt 2 c.xfer.isDone)
  | _ => 0

/-- The two words of a raw candidate (R52). -/
def RawObj.readReg (o : RawObj) (j : Nat) : Word :=
  match j with
  | 0 => halves o.range o.doppler
  | _ => reg o.peak.toNat

/-- The four words of an output object (R53). -/
def ObjOut.readReg (o : ObjOut) (j : Nat) : Word :=
  match j with
  | 0 => halves o.range o.doppler
  | 1 => halves o.peak o.x
  | 2 => halves o.y o.z
  | _ => 0

/-- The words of an output descriptor (R54). -/
def OutDesc.readReg (d : OutDesc) (j : Nat) : Word :=
  match j with
  | 0 => d.type
  | 1 => d.length
  | 2 => d.address
  | _ => 0

/-- The staging registers, offsets `0x040` to `0x094` (R31, R35 to R42). -/
def Cfg.readReg (c : Cfg) (off : Nat) : Word :=
  match off with
  | 0x040 => reg c.numRx.toNat
  | 0x044 => reg c.numTx.toNat
  | 0x048 => reg c.numAdc.toNat
  | 0x04C => reg c.numRange.toNat
  | 0x050 => reg c.numDop.toNat
  | 0x060 => c.rangeRes
  | 0x064 => reg c.xyzQ.toNat
  | 0x070 => c.cfarRng.cfgReg
  | 0x074 => c.cfarRng.thrReg
  | 0x078 => c.cfarDop.cfgReg
  | 0x07C => c.cfarDop.thrReg
  | 0x080 => reg (bitAt 0 c.pkScheme + bitAt 1 c.pkRange + bitAt 2 c.pkDoppler)
  | 0x084 => halves c.pkMin c.pkMax
  | 0x088 => reg (bitAt 0 c.mobEnable + 2 ^ 16 * c.mobThresh.toNat)
  | 0x08C => reg (bitAt 0 c.dcEnable + 2 ^ 16 * c.dcAvg.toNat)
  | 0x090 => halves c.dcNeg c.dcPos
  | 0x094 => reg c.monSel.toNat
  | _ => 0

/-- The registers below offset `0x100` that are no staging register (R22). -/
def State.readCore (s : State) (off : Nat) : Word :=
  match off with
  | 0x000 => reg (bitAt 0 s.waitMode)
  | 0x004 => s.statusReg
  | 0x008 => s.faultReg
  | 0x010 => tabGet s.arg 0 0
  | 0x014 => tabGet s.arg 1 0
  | 0x018 => tabGet s.arg 2 0
  | 0x01C => tabGet s.arg 3 0
  | 0x020 => tabGet s.arg 4 0
  | 0x024 => tabGet s.arg 5 0
  | 0x028 => s.res0
  | 0x02C => s.res1
  | 0x030 => s.irqStatus
  | 0x034 => s.irqEnable
  | 0x038 => reg (bitAt 0 s.logAvail)
  | 0x054 => reg Config.numAngleBins
  | 0x058 => s.numVirtAnt
  | 0x05C => s.chirpsPerFrame
  | 0x0A0 => reg s.chirpCount.toNat
  | 0x0A4 => reg s.txAntCount.toNat
  | 0x0A8 => reg s.dopBinCount.toNat
  | 0x0AC => reg s.dcCount.toNat
  | 0x0B0 => s.frameCount
  | 0x0B4 => s.numRawObj
  | 0x0B8 => s.numObjOut
  | 0x0BC => s.droppedFrames
  | 0x0C0 => s.rawTruncCount
  | 0x0C4 => s.objTruncCount
  | 0x0C8 => s.numOutDesc
  | 0x0D0 => s.win1dInfo.infoReg
  | 0x0D4 => s.win1dInfo.oneQ
  | 0x0D8 => s.win2dInfo.infoReg
  | 0x0DC => s.win2dInfo.oneQ
  | 0x0E0 => reg s.bmpCursor.toNat
  | off => s.stg.readReg off

/-- Entry `i` of `RAWOBJ` as the host reads it: a free value at or above `NUM_RAW_OBJ` (R52). -/
def State.rawEntry (s : State) (i : Nat) : RawObj :=
  if i < s.numRawObj.toNat then tabGet s.rawObj i default else RawObj.free s.tick (0x2000 + 8 * i)

/-- Entry `i` of `OBJOUT` as the host reads it: a free value at or above `NUM_OBJ_OUT` (R53). -/
def State.objEntry (s : State) (i : Nat) : ObjOut :=
  if i < s.numObjOut.toNat then tabGet s.objOut i default else ObjOut.free s.tick (0x3000 + 16 * i)

/-- The value at an offset of the register map: 0 for an offset that is not a multiple of 4, that the map does not list, or
that is write-only (R21, R22). -/
def State.readReg (s : State) (off : Nat) : Word :=
  if off % 4 ≠ 0 then 0
  else if off < 0x100 then s.readCore off
  else if off < 0x148 then tabGet s.stg.bufBase ((off - 0x100) / 4) 0
  else if off < 0x200 then 0
  else if off < 0x380 then (s.chan ((off - 0x200) / 0x20)).readReg ((off - 0x200) % 0x20 / 4)
  else if off < 0x400 then 0
  else if off < 0x480 then tabGet s.bmpWord ((off - 0x400) / 4) 0
  else if off < 0x800 then 0
  else if off < 0x1000 then (tabGet s.win1d ((off - 0x800) / 4) 0).zeroExtend 32
  else if off < 0x1800 then tabGet s.win2d ((off - 0x1000) / 4) 0
  else if off < 0x2000 then
    let c := tabGet s.dcSum ((off - 0x1800) / 8) default
    if (off - 0x1800) % 8 = 0 then c.re else c.im
  else if off < 0x2640 then (s.rawEntry ((off - 0x2000) / 8)).readReg ((off - 0x2000) % 8 / 4)
  else if off < 0x3000 then 0
  else if off < 0x3640 then (s.objEntry ((off - 0x3000) / 16)).readReg ((off - 0x3000) % 16 / 4)
  else if off < 0x3800 then 0
  else if off < 0x3860 then (tabGet s.outDesc ((off - 0x3800) / 16) default).readReg ((off - 0x3800) % 16 / 4)
  else 0

/-- The offsets of `RES` and of the tables a command writes: while the block is busy a read may see them before or after the
sequencer's work (R58, R403, U7). -/
def torn (off : Nat) : Bool :=
  off == 0x028 || off == 0x02C || (decide (0x400 ≤ off) && decide (off < 0x3860))

/-- The state after the sequencer's next step, where it answers one. -/
def State.ahead (s : State) : State :=
  match seqStep s with
  | .next t => t
  | .fault _ | .refused _ => s

/-- The position the sequencer is at, or resumes at after its wait. -/
def Seq.place : Seq → Option Pos
  | .pos q | .wait _ q => some q
  | .idle | .cmd _ | .halt => none

/-- The state with other tables: a list that stands published in its window keeps its entries (R102, R405). -/
def State.withTables (s : State) (t : Tables) : State :=
  { s with
    bmpWord := t.bmpWord
    dcSum := t.dcSum
    rawObj := if s.window.raw then s.rawObj else t.rawObj
    numRawObj := if s.window.raw then s.numRawObj else t.numRawObj
    objOut := if s.window.objs then s.objOut else t.objOut
    numObjOut := if s.window.objs then s.numObjOut else t.numObjOut }

/-- The state with the tables as they were before the running sequence; the first step of the per-chirp sequence records
them. -/
def State.earlier (s : State) : State :=
  match s.seq.place with
  | some (.chirp .s1 _) => s
  | some (.chirp _ _) | some (.frame _ _) => s.withTables s.before
  | none | some .complete | some (.stop _) | some (.angle _) => s

/-- What `RES` or a table may read as while the block is busy: its value, its value after the sequencer's next step, its value
before the running sequence; a free choice (R58, R403, R405, U7, log entries 11 and 27). -/
def State.busyReg (s : State) (off : Nat) : Word :=
  match Config.busyChoice s.tick off with
  | 0 => s.readReg off
  | 1 => s.ahead.readReg off
  | _ => s.earlier.readReg off

/-- What a host read returns (R21, R58, R403). -/
def State.busRead (s : State) (off : Nat) : Word :=
  if s.seq.busy && torn off then s.busyReg off else s.readReg off

/-! ## Writing a register -/

/-- `CFAR_*_CFG` written (R38). -/
def CfarCfg.writeCfg (c : CfarCfg) (w : Word) : CfarCfg :=
  { c with
    avgMode := w.extractLsb' 0 2
    cyclic := flagAt w 2
    noiseDivShift := w.extractLsb' 4 4
    guardLen := w.extractLsb' 8 8
    winLen := w.extractLsb' 16 8 }

/-- `CFAR_*_THR` written (R38). -/
def CfarCfg.writeThr (c : CfarCfg) (w : Word) : CfarCfg := { c with threshold := w.extractLsb' 0 16 }

/-- A staging register written; any other offset changes nothing (R31, R35 to R42). -/
def Cfg.writeReg (c : Cfg) (off : Nat) (w : Word) : Cfg :=
  match off with
  | 0x040 => { c with numRx := w.extractLsb' 0 3 }
  | 0x044 => { c with numTx := w.extractLsb' 0 2 }
  | 0x048 => { c with numAdc := w.extractLsb' 0 11 }
  | 0x04C => { c with numRange := w.extractLsb' 0 11 }
  | 0x050 => { c with numDop := w.extractLsb' 0 11 }
  | 0x060 => { c with rangeRes := w }
  | 0x064 => { c with xyzQ := w.extractLsb' 0 4 }
  | 0x070 => { c with cfarRng := c.cfarRng.writeCfg w }
  | 0x074 => { c with cfarRng := c.cfarRng.writeThr w }
  | 0x078 => { c with cfarDop := c.cfarDop.writeCfg w }
  | 0x07C => { c with cfarDop := c.cfarDop.writeThr w }
  | 0x080 => { c with pkScheme := flagAt w 0, pkRange := flagAt w 1, pkDoppler := flagAt w 2 }
  | 0x084 => { c with pkMin := w.extractLsb' 0 16, pkMax := w.extractLsb' 16 16 }
  | 0x088 => { c with mobEnable := flagAt w 0, mobThresh := w.extractLsb' 16 16 }
  | 0x08C => { c with dcEnable := flagAt w 0, dcAvg := w.extractLsb' 16 16 }
  | 0x090 => { c with dcNeg := w.extractLsb' 0 16, dcPos := w.extractLsb' 16 16 }
  | 0x094 => { c with monSel := w.extractLsb' 0 5 }
  | _ => c

/-- `ARG[i]` written; while the block is busy the value it held is remembered (R26, U7). -/
def State.writeArg (s : State) (i : Nat) (w : Word) : State :=
  { s with
    arg := tabSet s.arg i w
    argPast := if s.seq.busy then tabSet s.argPast i (tabGet s.arg i 0 :: tabGet s.argPast i []) else s.argPast }

/-- A writable register other than `CMD` written (R21, R22): no effect at an offset that is not listed or is read-only. -/
def State.writeReg (s : State) (off : Nat) (w : Word) : State :=
  if off = 0x000 then { s with waitMode := flagAt w 0 }
  else if 0x010 ≤ off ∧ off < 0x028 then s.writeArg ((off - 0x010) / 4) w
  else if off = 0x030 then s.clearIrq w
  else if off = 0x034 then { s with irqEnable := w &&& irqMask }
  else if off = 0x038 then { s with logAvail := flagAt w 0 }
  else if 0x100 ≤ off ∧ off < 0x148 then
    { s with stg := { s.stg with bufBase := tabSet s.stg.bufBase ((off - 0x100) / 4) w } }
  else { s with stg := s.stg.writeReg off w }

/-- A host write to the register bus (R21, R22, R28): no effect at an offset that is not a multiple of 4, and none in `HALTED`
(U2, log entry 12, DEDUCED). -/
def State.busWrite (s : State) (off : Nat) (w : Word) : State :=
  if off % 4 ≠ 0 ∨ s.mode = .halted then s
  else if off = 0x00C then s.acceptCmd w
  else s.writeReg off w

/-! ## The memory port -/

/-- The host reaches the bytes: tiers A, B, C for reads and writes, the ADC space for writes alone (R82), inside the
capacities (R81). -/
def Spaces.hostAdmits (c : Spaces) (write : Bool) (addr n : Nat) : Bool :=
  decide (tierOf addr < 4) && decide (offsetOf addr + n ≤ c.capacity (tierOf addr)) && (write || tierOf addr != 3)

/-- Address `a` is among the bytes. -/
def Shown.has (r : Shown) (a : Nat) : Bool := decide (r.base ≤ a) && decide (a < r.base + r.size)

/-- CFG.COMMIT has placed the buffers: it alone sets `NUM_VIRT_ANT`, to 1 at least (R133, R134), and reset clears it (R390); before
it nothing reads the active configuration (R390 (6)). -/
def State.laidOut (s : State) : Bool := s.numVirtAnt != 0

/-- Address `a` is in a result buffer (R88, R102). -/
def State.inResult (s : State) (a : Nat) : Bool := s.laidOut && resultBuffers.any fun k => (s.placeOf k).has a

/-- The host may read `a` as part of a result (R102, R337). -/
def Window.shows (w : Window) (a : Nat) : Bool := w.shown.any fun r => r.has a

/-- A host read of `a` is outside the results window: in a result buffer, where no published result stands untouched (R102,
R337). -/
def State.outsideWindow (s : State) (a : Nat) : Bool := s.inResult a && !s.window.shows a

/-- The byte a host read returns (R82, R101, R102). -/
def State.hostByte (s : State) (a : Nat) : Byte :=
  if s.outsideWindow a then Config.raceRead s.tick a else s.rdByte .host a

/-- The `n` bytes a host read returns. -/
def State.hostBytes (s : State) (a n : Nat) : List Byte := (List.range n).map fun k => s.hostByte (a + k)

end Sys2Proof.Machine
end

