-- ==== Sys2Proof/Machine/Agents.lean ====
section
/-! DEFINITION. One step of one agent (R3, R4): the sequencer, a DMA channel, or a host action. -/

namespace Sys2Proof.Machine

/-- The step an action names (R4). A memory-port access (R82) is of any length, at any byte address, and one atomic step: the
spec gives it no width, alignment or atomicity (log entry 28, DESIGN CHOICE). -/
def act (a : Action) (s : State) : Host.Outcome State Fault Refusal :=
  match a with
  | .seq => seqStep s
  | .dma p => .next (s.perform p)
  | .regRead off => .next { s with busData := s.busRead off }
  | .regWrite off w => .next (s.busWrite off w)
  | .memRead addr n =>
    if s.spaces.hostAdmits false addr.toNat n then .next { s with memData := s.hostBytes addr.toNat n }
    else .fault .hostMemoryPort
  | .memWrite addr bytes =>
    if s.spaces.hostAdmits true addr.toNat bytes.length then .next (s.wrBytes .host addr.toNat bytes)
    else .fault .hostMemoryPort
  | .chirp => .next s.chirpEvent
  | .reset => .next s.rst

/-- A transfer is waiting to be performed (R210). -/
def State.someBusy (s : State) : Bool :=
  s.mode != .halted && (List.range Config.numDmaPhys).any fun p => (s.chan p).xfer.isBusy

/-- No agent of the block has an enabled step: it waits for its environment. -/
def State.quiet (s : State) : Bool := !s.seqEnabled && !s.someBusy

/-- The agent of the block a number names. -/
def agentOf (k : Nat) : Action :=
  match k % 13 with
  | 0 => .seq
  | p + 1 => .dma p

end Sys2Proof.Machine
end

