-- ==== Sys2Proof/Machine/Step.lean ====
section
/-! DEFINITION. The step of the whole machine (R4), and where a command word stands for the sequencer to run it. -/

namespace Sys2Proof.Machine

/-- One step: of the agent the environment names next; with nothing named, of an agent of the block, which one being free
(R4, U6), or none when no agent of the block has an enabled step. -/
def step (s : State) : Host.Outcome State Fault Refusal :=
  match s.agenda with
  | a :: rest => act a { s with agenda := rest, tick := s.tick + 1 }
  | [] => if s.quiet then .next s else act (agentOf (Config.nextAgent s.tick)) { s with tick := s.tick + 1 }

/-- The command word, as the host's write of `CMD` leaves it for the sequencer (R28), and the sequencer's step chosen
next. -/
def State.withFetchWord (s : State) (nbits w : Nat) : State :=
  { s with seq := .cmd (BitVec.ofNat 32 (w % 2 ^ nbits)), agenda := .seq :: s.agenda }

end Sys2Proof.Machine
end

