-- ==== Sys2Proof/Safety.lean ====
section
/-! DEFINITION. What counts as a safe run: the block is not halted (R352), and the fairness under which it makes progress
(R213, R413). -/

namespace Sys2Proof.Machine

/-- A state in which no Fatal has stopped the block (R352). -/
def State.safe (s : State) : Prop := s.mode ≠ .halted

/-- The sequencer waits for a channel whose transfer was never started: only reset leaves this state (R372, R402). -/
def State.stuck (s : State) : Prop :=
  ∃ p q, s.seq = .wait p q ∧ (s.chan p).xfer = .idle

/-- The reserved bits of a state are zero (R21, R33). -/
def State.reservedZero (s : State) : Prop :=
  s.irqStatus &&& ~~~irqMask = 0 ∧ s.irqEnable &&& ~~~irqMask = 0

/-- A run: consecutive states of the machine. -/
def IsRun (run : Nat → State) : Prop := ∀ n, step (run n) = .next (run (n + 1))

/-- The liveness assumption: every started transfer is performed or discarded after finitely many steps, unless the block
halts, and every enabled sequencer step is taken (R213, R413). -/
def Fair (run : Nat → State) : Prop :=
  (∀ n p d, ((run n).chan p).xfer = .busy d →
      ∃ m, n ≤ m ∧ ((run m).mode = .halted ∨ ((run m).chan p).xfer ≠ .busy d))
    ∧ (∀ n, (run n).seqEnabled → ∃ m, n ≤ m ∧ (run m).seq ≠ (run n).seq)

end Sys2Proof.Machine
end

