-- ==== Sys2Proof/Certificates/Slice0/Obligations.lean ====
section
/-! DEFINITION. The statements for the provers. The helpers before them restate the spec's own tables and conditions
(the mode table of R131, the checks of R133, the buffer table of R88, the descriptors of R215, ownership as R101 words it),
so that a statement does not rest on the model's own text for them. -/

namespace Sys2Proof.Claim

open Sys2Proof.Machine

/-! ## How a command ends -/

/-- Stage 5 of R130: `SEQ <- IDLE`, so `BUSY` is 0, and `IRQ_STATUS.CMD_DONE` (bit 2) is set. -/
def done (s : State) : State := { s with seq := .idle, irqStatus := s.irqStatus ||| 0x4 }

/-- `Fatal(code, info)` (R352): the four effects, with the code as the number of R353. -/
def faulted (s : State) (code : Byte) (info : Nat) : State :=
  { s with
    fault := if s.fault.code = 0 then ⟨code, BitVec.ofNat 24 info⟩ else s.fault
    mode := .halted
    seq := .halt
    irqStatus := s.irqStatus ||| 0x2 }

/-- The table of R131: the opcodes of the commands a mode admits. -/
def modeTable : Mode → List Nat
  | .unconfigured => [0x00, 0x01, 0x20]
  | .configured =>
    [0x00, 0x01, 0x02, 0x20, 0x10, 0x11, 0x12, 0x13, 0x21, 0x22, 0x23, 0x30, 0x31, 0x32, 0x33, 0x40, 0x41, 0x50, 0x60,
      0x61, 0x71, 0x72]
  | .running => [0x00, 0x03, 0x70]
  | .halted => []

/-! ## Memory as a program sees it -/

/-- The byte memory holds at `a`: the last one written, or the free power-up byte (R391). -/
def byteAt (s : State) (a : Nat) : Byte := (s.mem.get a).getD (Config.powerUpByte a)

/-- The little-endian number of the `n` bytes at `a` (R83). -/
def numAt (s : State) (a n : Nat) : Nat := leNat ((List.range n).map fun k => byteAt s (a + k))

/-- The `n` `c16` samples at `a` (R84). -/
def c16sAt (s : State) (a n : Nat) : List Cx := (List.range n).map fun i => cxOf 16 (numAt s (a + 4 * i) 4)

/-- The `n` `c32` values at `a` (R84). -/
def c32sAt (s : State) (a n : Nat) : List Cx := (List.range n).map fun i => cxOf 32 (numAt s (a + 8 * i) 8)

/-- The `n` unsigned 16-bit values at `a` (R84). -/
def u16sAt (s : State) (a n : Nat) : List Nat := (List.range n).map fun i => numAt s (a + 2 * i) 2

/-- The `n` unsigned 64-bit values at `a` (R84). -/
def u64sAt (s : State) (a n : Nat) : List Nat := (List.range n).map fun i => numAt s (a + 8 * i) 8

/-- The bytes of `c16` values in memory order (R84). -/
def c16Bytes (xs : List Cx) : List Byte := xs.flatMap fun z => leBytes 4 (cxBits 16 z)

/-- The bytes of `c32` values in memory order (R84). -/
def c32Bytes (xs : List Cx) : List Byte := xs.flatMap fun z => leBytes 8 (cxBits 32 z)

/-- The bytes of 16-bit numbers in memory order (R83). -/
def u16Bytes (xs : List Nat) : List Byte := xs.flatMap fun v => leBytes 2 v

/-- `t` is `s` with the bytes `bs` stored from `dst` up: every other byte of memory and everything else is as before. -/
def Stores (s t : State) (dst : Nat) (bs : List Byte) : Prop :=
  t = { s with mem := t.mem }
    ∧ ∀ a, byteAt t a = if dst ≤ a ∧ a < dst + bs.length then listGet bs (a - dst) 0 else byteAt s a

/-- R101 allows the sequencer or the host to read the `n` bytes at `a`: no transfer whose completion is not consumed owns
one of them for writing. -/
abbrev MayRead (s : State) (a n : Nat) : Prop := ∀ k, k < n → ∀ p, p < 12 → (s.chan p).xfer.ownsWrite (a + k) = false

/-- R101 allows the sequencer or the host to write the `n` bytes at `a`: no transfer owns one of them, and no transfer not
yet performed will read one. -/
abbrev MayWrite (s : State) (a n : Nat) : Prop :=
  ∀ k, k < n → ∀ p, p < 12 → (s.chan p).xfer.ownsWrite (a + k) = false ∧ (s.chan p).xfer.awaits (a + k) = false

/-- The `n` bytes at `a`, aligned to `al`, can be read by the sequencer (R85, R86, R101). -/
abbrev Readable (s : State) (a n al : Nat) : Prop := a % al = 0 ∧ s.spaces.admits false a n = true ∧ MayRead s a n

/-- The `n` bytes at `a`, aligned to `al`, can be written by the sequencer (R85, R86, R101). -/
abbrev Writable (s : State) (a n al : Nat) : Prop := a % al = 0 ∧ s.spaces.admits true a n = true ∧ MayWrite s a n

/-- Of `n` elements of `size` bytes from `a` up, element `j` is the first that lies outside its space (R86). -/
abbrev FirstOutside (s : State) (write : Bool) (a size n j : Nat) : Prop :=
  j < n ∧ (∀ i, i < j → s.spaces.admits write (a + size * i) size = true)
    ∧ s.spaces.admits write (a + size * j) size = false

/-! ## The arithmetic of the transforms, as the rules write it -/

/-- `rnd_shr(v, k)`: the nearest integer to `v / 2^k`, a tie upward (R9). -/
def roundShift (v : Int) (k : Nat) : Int := (2 * v + 2 ^ k) / 2 ^ (k + 1)

/-- `sat16` and `sat32`: the nearest value of a signed `n`-bit word (R9). -/
def satTo (n : Nat) (v : Int) : Int := max (-(2 ^ (n - 1))) (min v (2 ^ (n - 1) - 1))

/-- A block windowed: each sample times the coefficient of its position, with 15 fraction bits, saturated to `n` bits (R166,
R167). -/
def windowed (n : Nat) (coef : Nat → Nat) (x : List Cx) : List Cx :=
  (List.range x.length).map fun i =>
    let z := listGet x i Cx.zero
    ⟨satTo n (roundShift (z.re * (coef i : Int)) 15), satTo n (roundShift (z.im * (coef i : Int)) 15)⟩

/-- The coefficient of `WIN1D` for position `i` of a block of `Ns` samples (R164, R166). -/
def coef1 (s : State) (i : Nat) : Nat :=
  (tabGet s.win1d (if i < s.win1dInfo.gen.toNat then i else s.ns - 1 - i) 0).toNat

/-- The coefficient of `WIN2D` for position `i` of a block of `Nd` samples (R164, R167). -/
def coef2 (s : State) (i : Nat) : Nat :=
  (tabGet s.win2d (if i < s.win2dInfo.gen.toNat then i else s.nd - 1 - i) 0).toNat

/-- `cmul_q15` and `cmul_q31`: the exact product, one rounding a part (R172). -/
def rounded (q : Nat) (v w : Cx) : Cx :=
  ⟨roundShift (v.re * w.re - v.im * w.im) q, roundShift (v.re * w.im + v.im * w.re) q⟩

/-- Element `i` after stage `k` of a transform of `2^m` points on `a`, by the 32-bit engine or the 16-bit one (R173). -/
def butterfly (wide : Bool) (m k : Nat) (a : List Cx) (i : Nat) : Cx :=
  let half := 2 ^ (k - 1)
  let span := 2 ^ k
  let upper : Bool := decide (i % span < half)
  let low := if upper then i else i - half
  let twiddle := (if wide then tw32 else tw16) (2 ^ m) (low % span * (2 ^ m / span))
  let u := listGet a low Cx.zero
  let v := rounded (if wide then 31 else 15) (listGet a (low + half) Cx.zero) twiddle
  let sh := if wide = false ∧ k % 2 = 0 ∧ k < m then 1 else 0
  let n := if wide then 32 else 16
  if upper then ⟨satTo n (roundShift (u.re + v.re) sh), satTo n (roundShift (u.im + v.im) sh)⟩
  else ⟨satTo n (roundShift (u.re - v.re) sh), satTo n (roundShift (u.im - v.im) sh)⟩

/-- `Fft` on `2^m` points: the input in bit-reversed order, then stages 1 to `m` (R173). -/
def transform (wide : Bool) (m : Nat) (x : List Cx) : List Cx :=
  (List.range m).foldl (fun a k => (List.range (2 ^ m)).map (butterfly wide m (k + 1) a))
    ((List.range (2 ^ m)).map fun i => listGet x (bitrev m i) Cx.zero)

/-- `RangeFft` (R187, R168). -/
def rangeSpectrum (s : State) (x : List Cx) : List Cx :=
  transform false (Nat.log2 s.nr) (windowed 16 (coef1 s) x ++ List.replicate (s.nr - s.ns) Cx.zero)

/-- `DopplerFft` (R187). -/
def dopplerSpectrum (s : State) (x : List Cx) : List Cx := transform true (Nat.log2 s.nd) (windowed 32 (coef2 s) x)

/-- `DFT1(x, d)`: the exact sum over the windowed samples, one rounding at the end (R182). -/
def singleBin (s : State) (x : List Cx) (d : Nat) : Cx :=
  let y (c : Nat) : Cx := listGet (windowed 32 (coef2 s) x) c Cx.zero
  let w (c : Nat) : Cx := tw32 s.nd (c * d % s.nd)
  ⟨satTo 32 (roundShift (∑ c ∈ Finset.range s.nd, ((y c).re * (w c).re - (y c).im * (w c).im)) 31),
    satTo 32 (roundShift (∑ c ∈ Finset.range s.nd, ((y c).re * (w c).im + (y c).im * (w c).re)) 31)⟩

/-- `Comp(z, d)` (R293): for the upper half of the bins the twiddle index `d - Nd` is `d + Nd` modulo `2 * Nd`. -/
def compensated (nd d : Nat) (z : Cx) : Cx :=
  let m := rounded 31 z (tw32 (2 * nd) (if d < nd / 2 then d else d + nd))
  ⟨satTo 32 m.re, satTo 32 m.im⟩

/-- The table `T` holds the `N`-th roots of unity, `e^(-2 pi i k / N)`, times `A`, rounded, for `N` from 2 to 2048: the exact
points and symmetries of R170 and R171, and the double-angle formula and the norm to within the rounding. -/
def RootsOfUnity (T : Nat → Nat → Cx) (A : Int) : Prop :=
  ∀ e, 1 ≤ e → e ≤ 11 →
    let N := 2 ^ e
    T N 0 = ⟨A, 0⟩ ∧ T N (N / 2) = ⟨-A, 0⟩ ∧ (2 ≤ e → T N (N / 4) = ⟨0, -A⟩)
      ∧ ∀ k, T N k = T N (k % N)
        ∧ T N (k + N / 2) = ⟨-(T N k).re, -(T N k).im⟩
        ∧ (k ≤ N → T N (N - k) = ⟨(T N k).re, -(T N k).im⟩)
        ∧ (4 * k ≤ N → 0 ≤ (T N k).re ∧ (T N k).im ≤ 0)
        ∧ |(T N k).re * (T N k).re + (T N k).im * (T N k).im - A * A| ≤ 2 * A
        ∧ (e < 11 → T (2 * N) (2 * k) = T N k
          ∧ |(T (2 * N) k).re * (T (2 * N) k).re - (T (2 * N) k).im * (T (2 * N) k).im - A * (T N k).re| ≤ 2 * A
          ∧ |2 * (T (2 * N) k).re * (T (2 * N) k).im - A * (T N k).im| ≤ 2 * A)

/-! ## The configuration checks (R133, R88 to R91, R95) -/

/-- The checks of R133, by number. -/
def CheckHolds (c : Cfg) (n : Nat) : Prop :=
  match n with
  | 1 => 1 ≤ c.numRx.toNat ∧ c.numRx.toNat ≤ 4
  | 2 => 1 ≤ c.numTx.toNat ∧ c.numTx.toNat ≤ 2
  | 3 => c.numAdc.toNat % 16 = 0 ∧ 16 ≤ c.numAdc.toNat ∧ c.numAdc.toNat ≤ 1024
  | 4 => (∃ e, e < 11 ∧ c.numRange.toNat = 2 ^ e) ∧ c.numAdc.toNat ≤ c.numRange.toNat
      ∧ c.numRange.toNat < 2 * c.numAdc.toNat
  | 5 => (∃ e, e < 11 ∧ c.numDop.toNat = 2 ^ e) ∧ 16 ≤ c.numDop.toNat ∧ c.numDop.toNat ≤ 1024
  | 6 => c.cfarDop.avgMode ≠ 3
  | 7 => c.cfarRng.avgMode ≠ 3
  | 8 => 1 ≤ c.cfarDop.winLen.toNat
      ∧ (if c.cfarDop.cyclic then 2 * (c.cfarDop.guardLen.toNat + c.cfarDop.winLen.toNat) + 1 ≤ c.numDop.toNat
        else 2 * (c.cfarDop.guardLen.toNat + c.cfarDop.winLen.toNat) ≤ c.numDop.toNat)
  | 9 => c.cfarRng.cyclic = false ∧ 1 ≤ c.cfarRng.winLen.toNat
      ∧ 2 * (c.cfarRng.guardLen.toNat + c.cfarRng.winLen.toNat) ≤ c.numRange.toNat
  | 10 => c.pkMin.toNat ≤ c.pkMax.toNat ∧ c.pkMax.toNat + 1 ≤ c.numRange.toNat
  | 11 => c.dcEnable = true →
      (∃ e, e < 16 ∧ c.dcAvg.toNat = 2 ^ e) ∧ -31 ≤ c.dcNeg.toInt ∧ c.dcNeg.toInt ≤ 0 ∧ c.dcPos.toNat ≤ 31
        ∧ (c.dcPos.toNat : Int) - c.dcNeg.toInt + 1 ≤ 32
        ∧ (c.dcPos.toNat : Int) - c.dcNeg.toInt + 1 ≤ c.numRange.toNat
  | _ => True

/-- The size column of R88. -/
def sizes (c : Cfg) : List Nat :=
  let nrx := c.numRx.toNat
  let nv := c.numRx.toNat * c.numTx.toNat
  let ns := c.numAdc.toNat
  let nr := c.numRange.toNat
  let nd := c.numDop.toNat
  [4 * ns, 4 * ns, 4 * nrx * nr, 4 * nrx * nr, 4 * nv * nr * nd, 2 * nr * nd, 4 * nd, 4 * nd, 2 * nd, 2 * nd, 2 * nr,
    2 * nr, 4 * nv * nd, 8 * nr * nv, 2 * nr, 2 * nr, 1204, 32]

/-- The size of buffer `k` (R88). -/
def bufferSize (c : Cfg) (k : Nat) : Nat := listGet (sizes c) k 0

/-- The address of buffer `k` (R46). -/
def baseOf (c : Cfg) (k : Nat) : Nat := (tabGet c.bufBase k 0).toNat

/-- The phase column of R88: 1 and 2 for `P1` and `P2`, 0 for `PERSIST`. -/
def phases : List Nat := [1, 1, 1, 1, 0, 0, 2, 2, 2, 2, 2, 2, 2, 0, 0, 0, 0, 0]

/-- R89: buffer `k` is 8-aligned and in tier A, B or C. -/
abbrev BufferAligned (c : Cfg) (k : Nat) : Prop := baseOf c k % 8 = 0 ∧ tierOf (baseOf c k) < 3

/-- R90: buffer `k` fits its tier. -/
abbrev BufferFits (c : Cfg) (sp : Spaces) (k : Nat) : Prop :=
  offsetOf (baseOf c k) + bufferSize c k ≤ sp.capacity (tierOf (baseOf c k))

/-- Buffers `j` and `k` share a byte. -/
abbrev Overlap (c : Cfg) (j k : Nat) : Prop :=
  tierOf (baseOf c j) = tierOf (baseOf c k)
    ∧ offsetOf (baseOf c j) < offsetOf (baseOf c k) + bufferSize c k
    ∧ offsetOf (baseOf c k) < offsetOf (baseOf c j) + bufferSize c j

/-- R91: buffers `j` and `k` share no byte, unless one is `P1` and the other `P2`. -/
abbrev PairOk (c : Cfg) (j k : Nat) : Prop :=
  Overlap c j k → listGet phases j 0 + listGet phases k 0 = 3

/-- R95: the ADC space holds one chirp. -/
abbrev AdcFits (c : Cfg) (sp : Spaces) : Prop := 4 * c.numRx.toNat * c.numAdc.toNat ≤ sp.capacity 3

/-- A placement CFG.COMMIT accepts (R89 to R91, R95). -/
abbrev LegalLayout (c : Cfg) (sp : Spaces) : Prop :=
  (∀ k, k < 18 → BufferAligned c k ∧ BufferFits c sp k) ∧ (∀ j, j < 18 → ∀ k, k < 18 → j < k → PairOk c j k)
    ∧ AdcFits c sp

/-- A configuration CFG.COMMIT accepts (R133 and the layout checks). -/
def LegalConfig (c : Cfg) (sp : Spaces) : Prop := (∀ n, n < 12 → CheckHolds c n) ∧ LegalLayout c sp

/-- The geometry part of the checks (R133 checks 1 to 5). -/
def LegalGeometry (c : Cfg) : Prop := ∀ n, n < 6 → CheckHolds c n

/-! ## The results window (R102, log entry 17) -/

/-- The buffers R102 speaks of: cube, detection matrix, heat map, the two profiles, objects, statistics (R88). -/
def results : List Nat := [4, 5, 13, 14, 15, 16, 17]

/-- Buffer `k` where the active configuration places it (R46, R88). -/
def placed (s : State) (k : Nat) : Shown := ⟨k, baseOf s.act k, bufferSize s.act k⟩

/-- The bytes of `r` below `q` and above it. -/
def apart (q r : Shown) : List Shown :=
  let top := max r.base (q.base + q.size)
  [⟨r.buf, r.base, min r.size (q.base - r.base)⟩, ⟨r.buf, top, r.base + r.size - top⟩].filter fun p => p.size != 0

/-- The window once the block rewrites buffer `k`: nothing of that buffer, and of the others nothing where it lies now. -/
def without (s : State) (k : Nat) : Window :=
  { s.window with shown := (s.window.shown.filter fun r => r.buf != k).flatMap (apart (placed s k)) }

/-- A host read of `a` is inside the window: no configuration has been committed (R390 (6)), or no result buffer is there, or a
published result stands there that the block has not begun to rewrite. -/
abbrev InWindow (s : State) (a : Nat) : Prop :=
  s.numVirtAnt ≠ 0 → ∀ k ∈ results, baseOf s.act k ≤ a → a < baseOf s.act k + bufferSize s.act k →
    ∃ r ∈ s.window.shown, r.base ≤ a ∧ a < r.base + r.size

/-! ## The tables while the block is busy (R58, U7, log entries 11 and 27) -/

/-- `BMP_WORD`, `DCSUM`, `RAWOBJ` and `OBJOUT` with their counts. -/
def tablesOf (s : State) : Tables := ⟨s.bmpWord, s.dcSum, s.rawObj, s.objOut, s.numRawObj, s.numObjOut⟩

/-- The state with the tables as they were before the sequence that is running or waiting; a list published since (R102, R405)
has its new entries alone. -/
def beforeSequence (s : State) : State :=
  let old : State :=
    { s with
      bmpWord := s.before.bmpWord, dcSum := s.before.dcSum
      rawObj := if s.window.raw then s.rawObj else s.before.rawObj
      numRawObj := if s.window.raw then s.numRawObj else s.before.numRawObj
      objOut := if s.window.objs then s.objOut else s.before.objOut
      numObjOut := if s.window.objs then s.numObjOut else s.before.numObjOut }
  match s.seq with
  | .pos (.chirp .s1 _) | .wait _ (.chirp .s1 _) => s
  | .pos (.chirp _ _) | .wait _ (.chirp _ _) | .pos (.frame _ _) | .wait _ (.frame _ _) => old
  | _ => s

/-! ## Channels -/

/-- The table of R215: `(ESIZE, ECOUNT, SSTRIDE, DSTRIDE)` of channels 0 to 10. -/
def shapes (c : Cfg) : List (Nat × Nat × Nat × Nat) :=
  let nrx := c.numRx.toNat
  let nv := c.numRx.toNat * c.numTx.toNat
  let ns := c.numAdc.toNat
  let nr := c.numRange.toNat
  let nd := c.numDop.toNat
  [(4 * ns, 1, 0, 0), (4 * ns, 1, 0, 0), (4, nrx * nr, 4, 4 * nd), (4, nrx * nr, 4, 4 * nd), (4 * nd, 1, 0, 0),
    (4 * nd, 1, 0, 0), (2 * nd, 1, 0, 0), (2 * nd, 1, 0, 0), (2, nr, 2 * nd, 2), (2, nr, 2 * nd, 2),
    (4 * nd, nv, 4 * nr * nd, 4 * nd)]

/-- A channel as `ProgramPipeline` leaves it (R215). -/
def pipeline (c : Cfg) (p : Nat) : Chan :=
  let f := listGet (shapes c) p (0, 0, 0, 0)
  { desc :=
      { src := 0, dst := 0, esize := BitVec.ofNat 16 f.1, ecount := BitVec.ofNat 16 f.2.1
        sstride := BitVec.ofNat 32 f.2.2.1, dstride := BitVec.ofNat 32 f.2.2.2 }
    prio := false, ien := false, srcBound := false, dstBound := false, configured := true, xfer := .idle }

/-- The channels with those from `lo` up to, not including, `hi` replaced. -/
def withChans (s : State) (lo hi : Nat) (f : Nat → Chan → Chan) : Vector Chan 12 :=
  Vector.ofFn fun p : Fin 12 => if lo ≤ p.val ∧ p.val < hi then f p.val (s.chan p.val) else s.chan p.val

/-- Channel `c` started on a descriptor rebound to `src` and `dst` (R208). -/
def restarted (c : Chan) (src dst : Word) : Chan :=
  { c with
    desc := { c.desc with src := src, dst := dst }
    srcBound := true
    dstBound := true
    xfer := .busy { c.desc with src := src, dst := dst } }

/-- Channel `p` with its completion consumed (R209). -/
def freed (s : State) (p : Nat) : State := s.setChan p { s.chan p with xfer := .idle }

/-- Every channel is idle: `BUSY = 0` and `DONE = 0`. -/
abbrev AllIdle (s : State) : Prop := ∀ p, p < 12 → (s.chan p).xfer = .idle

/-- Address `a` is in destination element `e` (R204). -/
abbrev InDst (d : Descr) (e a : Nat) : Prop := d.dstAt e ≤ a ∧ a < d.dstAt e + d.esize.toNat

/-- Every range of the transfer is admitted (R210 step 1). -/
abbrev RangesOk (s : State) (d : Descr) : Prop :=
  ∀ e, e < d.ecount.toNat →
    s.spaces.admits false (d.srcAt e) d.esize.toNat = true ∧ s.spaces.admits true (d.dstAt e) d.esize.toNat = true

/-- No other channel's transfer, no earlier write and no late sample breaks the ownership of channel `p`'s transfer (R101,
R404). -/
def Undisturbed (s : State) (p : Nat) (d : Descr) : Prop :=
  (∀ a, (p, a) ∉ s.raced) ∧ (s.chirpToken = true → ∀ a, d.readsAt a = true → a ∉ s.lateSamples)
    ∧ ∀ q, q < 12 → q ≠ p → ∀ a,
        (d.readsAt a = true → (s.chan q).xfer.ownsWrite a = false)
          ∧ (d.writesAt a = true → (s.chan q).xfer.ownsWrite a = false ∧ (s.chan q).xfer.awaits a = false)

/-! ## Detector, grouper, angle and output, as the rules write them -/

/-- `CubeAddr(v, r, d)`: `BUF[4] + 4 * ((v * Nr + r) * Nd + d)` (R93). -/
def cubeCell (s : State) (v r d : Nat) : Nat := baseOf s.act 4 + 4 * ((v * s.nr + r) * s.nd + d)

/-- `WinOk(t, L)` (R165). -/
abbrev Usable (w : WinInfo) (len : Nat) : Prop := w.valid = true ∧ w.len.toNat = len ∧ len ≤ 2 * w.gen.toNat

/-- `B`, the number of bins of the DC-signature window (R234). -/
def binsOf (s : State) : Nat := ((s.act.dcPos.toNat : Int) - s.act.dcNeg.toInt + 1).toNat

/-- `rb(b)`, the range bin of window bin `b` (R234). -/
def binOf (s : State) (b : Nat) : Nat := ((s.act.dcNeg.toInt + (b : Int)) % (s.nr : Int)).toNat

/-- Entry `e` of `DCSUM` after the spectrum `X` of antenna `rx` at transmit position `tx` is accumulated (R51, R234). -/
def summed (s : State) (tx rx : Nat) (X : List Cx) (e : Nat) : C32 :=
  let o := tabGet s.dcSum e default
  if e / 32 = tx * 4 + rx ∧ e % 32 < binsOf s then
    let x := listGet X (binOf s (e % 32)) Cx.zero
    ⟨BitVec.ofInt 32 (o.re.toInt + x.re), BitVec.ofInt 32 (o.im.toInt + x.im)⟩
  else o

/-- The spectrum `X` with the mean taken off in the bins of the window, saturated to 16 bits (R51, R234). -/
def offsetRemoved (s : State) (tx rx : Nat) (X : List Cx) : List Cx :=
  (List.range X.length).map fun j =>
    let x := listGet X j Cx.zero
    match (List.range (binsOf s)).find? fun b => binOf s b == j with
    | some b =>
      let m := tabGet s.dcSum ((tx * 4 + rx) * 32 + b) default
      ⟨satTo 16 (x.re - m.re.toInt), satTo 16 (x.im - m.im.toInt)⟩
    | none => x

/-- The sum of the `w` cells at distances `g + 1` to `g + w` on the side `sign` of `i`, indices taken modulo `N` (R254). -/
def sideSum (x : List Nat) (i g w : Nat) (sign : Int) : Nat :=
  ∑ k ∈ Finset.Icc (g + 1) (g + w), listGet x (((i : Int) + sign * (k : Int)) % (x.length : Int)).toNat 0

/-- `S` of R254. -/
def noiseSum (c : CfarCfg) (x : List Nat) (i : Nat) : Nat :=
  let g := c.guardLen.toNat
  let w := c.winLen.toNat
  let left : Bool := c.cyclic || decide (0 ≤ (i : Int) - g - w)
  let right : Bool := c.cyclic || decide ((i : Int) + g + w ≤ (x.length : Int) - 1)
  let sL := if left then sideSum x i g w (-1) else 0
  let sR := if right then sideSum x i g w 1 else 0
  if (left && right) = false then 2 * (sL + sR)
  else if c.avgMode = 0 then sL + sR
  else if c.avgMode = 1 then 2 * max sL sR
  else 2 * min sL sR

/-- `K(dr, dd)` of R272 for the candidate at `(r, d)`, on the raw list and the detection matrix of `s`. -/
def kernelAt (s : State) (scheme1 : Bool) (r d : Nat) (off : Int × Int) : Nat :=
  let rr : Int := r + off.1
  let dd : Nat := (((d : Int) + off.2) % (s.nd : Int)).toNat
  if rr < 0 ∨ (s.nr : Int) ≤ rr then 0
  else if scheme1 then
    match s.rawList.find? fun o => o.range.toNat == rr.toNat && o.doppler.toNat == dd with
    | some o => o.peak.toNat
    | none => 0
  else numAt s (s.buf 5 + 2 * (rr.toNat * s.nd + dd)) 2

/-- The selection mask of R273: the offsets of the neighbours a candidate is compared with. -/
def selected (enRange enDoppler : Bool) : List (Int × Int) :=
  if enRange = true ∧ enDoppler = true then
    [(-1, -1), (-1, 0), (-1, 1), (0, -1), (0, 1), (1, -1), (1, 0), (1, 1)]
  else if enRange = true then [(-1, 0), (1, 0)]
  else if enDoppler = true then [(0, -1), (0, 1)]
  else []

/-- A candidate the grouper keeps (R271, R273). -/
def keeps (s : State) (scheme1 : Bool) (o : RawObj) : Bool :=
  decide (s.act.pkMin.toNat ≤ o.range.toNat) && decide (o.range.toNat ≤ s.act.pkMax.toNat)
    && (selected s.act.pkRange s.act.pkDoppler).all fun off =>
      decide (kernelAt s scheme1 o.range.toNat o.doppler.toNat off
        ≤ kernelAt s scheme1 o.range.toNat o.doppler.toNat (0, 0))

/-- What the estimate depends on besides the spectrum and the range index: the active `RANGE_RES`, `XYZ_QFORMAT`,
`MOB_CFG.ENABLE` and `MOB_CFG.THRESH` (R303). -/
def estimateCfg (s : State) : XyCfg :=
  { rangeRes := s.act.rangeRes.toNat, q := s.act.xyzQ.toNat, enable := s.act.mobEnable, thresh := s.act.mobThresh.toNat }

/-- An estimate written to object `i` and, for a second peak, a new object or a count (R291, R296). -/
def withEstimate (s : State) (i : Nat) (est : (Int × Int) × Option (Int × Int)) : State :=
  let o := tabGet s.objOut i default
  let first := { o with x := BitVec.ofInt 16 (sat16 est.1.1), y := BitVec.ofInt 16 (sat16 est.1.2), z := 0 }
  match est.2 with
  | none => { s with objOut := tabSet s.objOut i first, res0 := 0 }
  | some xy =>
    if s.numObjOut.toNat < 100 then
      { s with
        objOut := tabSet (tabSet s.objOut i first) s.numObjOut.toNat
          { range := o.range, doppler := o.doppler, peak := o.peak, x := BitVec.ofInt 16 (sat16 xy.1)
            y := BitVec.ofInt 16 (sat16 xy.2), z := 0 }
        numObjOut := s.numObjOut + 1
        res0 := 1 }
    else { s with objOut := tabSet s.objOut i first, objTruncCount := s.objTruncCount + 1, res0 := 0 }

/-- The value of virtual antenna `v` from its row of `AZIN` (R291 to R293). -/
def antennaOf (s : State) (d v : Nat) : Cx :=
  let z := singleBin s (c16sAt s (s.buf 12 + 4 * (v * s.nd)) s.nd) d
  if s.ntx = 2 ∧ s.nrx ≤ v then compensated s.nd d z else z

/-- The magnitude-squared azimuth spectrum of an object (R291, R294). -/
def azimuthSpectrum (s : State) (d : Nat) : List Nat :=
  (transform true 6 ((List.range s.nv).map (antennaOf s d) ++ List.replicate (64 - s.nv) Cx.zero)).map fun z =>
    (z.re * z.re + z.im * z.im).toNat

/-- The main lobe of `P` around `k1` reaches `a` bins to the left and `b` to the right (R301): each walk goes on while the next
bin is strictly smaller, the left one first, with 63 steps for both. -/
abbrev LobeOf (P : List Nat) (k1 a b : Nat) : Prop :=
  let left (i : Nat) : Nat := listGet P ((k1 + 64 - i) % 64) 0
  let right (i : Nat) : Nat := listGet P ((k1 + i) % 64) 0
  a + b ≤ 63 ∧ (∀ i, i < a → left (i + 1) < left i) ∧ (a = 63 ∨ left a ≤ left (a + 1))
    ∧ (∀ i, i < b → right (i + 1) < right i) ∧ (a + b = 63 ∨ right b ≤ right (b + 1))

/-- Position `i` is the least at or above the cursor whose bit is set (R154). -/
abbrev NextBit (s : State) (i : Nat) : Prop :=
  s.bmpCursor.toNat ≤ i ∧ i < 32 * max (s.nd / 32) 1 ∧ s.bmpBit i = true
    ∧ ∀ j, s.bmpCursor.toNat ≤ j → j < i → s.bmpBit j = false

/-- The objects in use (R53). -/
def objects (s : State) : List ObjOut := s.objOut.toList.take s.numObjOut.toNat

/-- The descriptors of a published frame, in order (R330, R334). -/
def descriptors (s : State) : List OutDesc :=
  let w (n : Nat) : Word := BitVec.ofNat 32 n
  let opt (b : Nat) (d : OutDesc) : List OutDesc := if s.act.monSel.getLsbD b then [d] else []
  [⟨1, w (4 + 12 * s.numObjOut.toNat), w (s.buf 16)⟩] ++ opt 0 ⟨2, w (2 * s.nr), w (s.buf 14)⟩
    ++ opt 1 ⟨3, w (2 * s.nr), w (s.buf 15)⟩ ++ opt 2 ⟨4, w (8 * s.nr * s.nv), w (s.buf 13)⟩
    ++ opt 3 ⟨5, w (2 * s.nr * s.nd), w (s.buf 5)⟩ ++ opt 4 ⟨6, 32, w (s.buf 17)⟩

/-- The zero-velocity line of the detection matrix (R332). -/
def zeroLine (s : State) : List Nat := (List.range s.nr).map fun r => numAt s (s.buf 5 + 2 * (r * s.nd)) 2

/-- The detected-objects payload (R331). -/
def objPayload (s : State) : List Byte :=
  u16Bytes ([s.numObjOut.toNat, s.act.xyzQ.toNat]
    ++ (List.range s.numObjOut.toNat).flatMap fun i =>
      let o := tabGet s.objOut i default
      [o.range.toNat, o.doppler.toNat, o.peak.toNat, o.x.toNat, o.y.toNat, o.z.toNat])

/-- The noise profile (R332). -/
def noisePayload (s : State) : List Byte :=
  u16Bytes ((List.range s.nr).map fun r =>
    (satu16 (noiseSum s.act.cfarRng (zeroLine s) r / 2 ^ s.act.cfarRng.noiseDivShift.toNat)).toNat)

/-- The statistics payload; words 5 to 7 are free values (R333, U8). -/
def statsPayload (s : State) : List Byte :=
  ([s.frameCount, s.droppedFrames, s.rawTruncCount, s.objTruncCount, s.numRawObj, Config.statsWord s.tick 5,
    Config.statsWord s.tick 6, Config.statsWord s.tick 7] : List Word).flatMap fun w => leBytes 4 w.toNat

/-! ## The register map (R22) -/

/-- The bits of the field table of a register the host may write, but for `CMD` and `IRQ_STATUS` (R22, R26 to R46). -/
def writable (off : Nat) : Option Word :=
  if off = 0x000 then some 0x1
  else if 0x010 ≤ off ∧ off < 0x028 then some 0xFFFFFFFF
  else if off = 0x034 then some 0x0FFF000F
  else if off = 0x038 then some 0x1
  else if off = 0x040 then some 0x7
  else if off = 0x044 then some 0x3
  else if off = 0x048 ∨ off = 0x04C ∨ off = 0x050 then some 0x7FF
  else if off = 0x060 ∨ off = 0x084 ∨ off = 0x090 then some 0xFFFFFFFF
  else if off = 0x064 then some 0xF
  else if off = 0x070 ∨ off = 0x078 then some 0x00FFFFF7
  else if off = 0x074 ∨ off = 0x07C then some 0xFFFF
  else if off = 0x080 then some 0x7
  else if off = 0x088 ∨ off = 0x08C then some 0xFFFF0001
  else if off = 0x094 then some 0x1F
  else if 0x100 ≤ off ∧ off < 0x148 then some 0xFFFFFFFF
  else none

/-- What stands at an aligned offset that is no such register: the read-only registers and tables, and 0 at `CMD` and at an
offset the map does not list (R21, R22, R27, R30, R32, R33, R43 to R54). -/
def readOnly (s : State) (off : Nat) : Word :=
  let w (n : Nat) : Word := BitVec.ofNat 32 n
  let bit (b : Bool) (k : Nat) : Nat := if b then 2 ^ k else 0
  let info (i : WinInfo) : Word := w (i.len.toNat + 2 ^ 16 * i.gen.toNat + bit i.valid 31)
  if off < 0x100 then
    match off with
    | 0x004 => s.statusReg
    | 0x008 => w (s.fault.code.toNat + 2 ^ 8 * s.fault.info.toNat)
    | 0x028 => s.res0
    | 0x02C => s.res1
    | 0x030 => s.irqStatus
    | 0x054 => 64
    | 0x058 => s.numVirtAnt
    | 0x05C => s.chirpsPerFrame
    | 0x0A0 => w s.chirpCount.toNat
    | 0x0A4 => w s.txAntCount.toNat
    | 0x0A8 => w s.dopBinCount.toNat
    | 0x0AC => w s.dcCount.toNat
    | 0x0B0 => s.frameCount
    | 0x0B4 => s.numRawObj
    | 0x0B8 => s.numObjOut
    | 0x0BC => s.droppedFrames
    | 0x0C0 => s.rawTruncCount
    | 0x0C4 => s.objTruncCount
    | 0x0C8 => s.numOutDesc
    | 0x0D0 => info s.win1dInfo
    | 0x0D4 => s.win1dInfo.oneQ
    | 0x0D8 => info s.win2dInfo
    | 0x0DC => s.win2dInfo.oneQ
    | 0x0E0 => w s.bmpCursor.toNat
    | _ => 0
  else if 0x200 ≤ off ∧ off < 0x380 then
    let c := s.chan ((off - 0x200) / 0x20)
    match off % 0x20 with
    | 0x00 => c.desc.src
    | 0x04 => c.desc.dst
    | 0x08 => w (c.desc.esize.toNat + 2 ^ 16 * c.desc.ecount.toNat)
    | 0x0C => c.desc.sstride
    | 0x10 => c.desc.dstride
    | 0x14 => w (bit c.prio 0 + bit c.ien 1 + bit c.srcBound 2 + bit c.dstBound 3)
    | 0x18 => w (bit c.configured 0 + match c.xfer with | .idle => 0 | .busy _ => 2 | .done _ => 4)
    | _ => 0
  else if 0x400 ≤ off ∧ off < 0x480 then tabGet s.bmpWord ((off - 0x400) / 4) 0
  else if 0x800 ≤ off ∧ off < 0x1000 then w (tabGet s.win1d ((off - 0x800) / 4) 0).toNat
  else if 0x1000 ≤ off ∧ off < 0x1800 then tabGet s.win2d ((off - 0x1000) / 4) 0
  else if 0x1800 ≤ off ∧ off < 0x2000 then
    let c := tabGet s.dcSum ((off - 0x1800) / 8) default
    if off % 8 = 0 then c.re else c.im
  else if 0x2000 ≤ off ∧ off < 0x2640 then
    let o := tabGet s.rawObj ((off - 0x2000) / 8) default
    if off % 8 = 0 then w (o.range.toNat + 2 ^ 16 * o.doppler.toNat) else w o.peak.toNat
  else if 0x3000 ≤ off ∧ off < 0x3640 then
    let o := tabGet s.objOut ((off - 0x3000) / 16) default
    match off % 16 with
    | 0 => w (o.range.toNat + 2 ^ 16 * o.doppler.toNat)
    | 4 => w (o.peak.toNat + 2 ^ 16 * o.x.toNat)
    | 8 => w (o.y.toNat + 2 ^ 16 * o.z.toNat)
    | _ => 0
  else if 0x3800 ≤ off ∧ off < 0x3860 then
    let d := tabGet s.outDesc ((off - 0x3800) / 16) default
    match off % 16 with
    | 0 => d.type
    | 4 => d.length
    | 8 => d.address
    | _ => 0
  else 0

/-- Offset `off` is in `RAWOBJ`, in `OBJOUT`. -/
abbrev InRaw (off : Nat) : Prop := 0x2000 ≤ off ∧ off < 0x2640
abbrev InObjs (off : Nat) : Prop := 0x3000 ≤ off ∧ off < 0x3640

/-! ## Runs of commands -/

/-- The state after commands executed one after the other. -/
def afterAll : List Instr → State → State
  | [], s => s
  | i :: is, s =>
    match exec i s with
    | .next t => afterAll is t
    | .fault _ | .refused _ => s

/-- What `n` executions of BMP.NEXT leave in `RES[0]`, in order (R155). -/
def nextIndices : Nat → State → List Nat
  | 0, _ => []
  | n + 1, s => (afterAll [.bmpNext] s).res0.toNat :: nextIndices n (afterAll [.bmpNext] s)

/-- `n` executions of `ModuloChain`: the state and whether the last one said "last chirp of the frame" (R239). -/
def chained : Nat → State → State × Bool
  | 0, s => (s, false)
  | n + 1, s => (chained n s).1.moduloChain

/-- One chirp's spectrum accumulated `n` times (R238). -/
def accumulated (X : List Cx) (tx rx : Nat) : Nat → State → State
  | 0, s => s
  | n + 1, s => (accumulated X tx rx n s).dcAccumulate tx rx X (List.range s.dcBins)

/-! ## Invariants -/

/-- What the store of the block keeps: the canonical form of memory, the reserved interrupt bits 0 (R21, R33), the lists no
longer than their tables (R45, R54). -/
abbrev StoreInv (s : State) : Prop :=
  Memory.wf s.mem = true ∧ s.irqStatus &&& ~~~0x0FFF000F = 0 ∧ s.irqEnable &&& ~~~0x0FFF000F = 0
    ∧ s.numRawObj.toNat ≤ 200 ∧ s.numObjOut.toNat ≤ 100 ∧ s.numOutDesc.toNat ≤ 6

/-- The mode and the tokens at a position of the sequencer (R36, R131, R240). -/
def PosInv (s : State) (q : Pos) : Prop :=
  match q with
  | .complete | .angle _ => s.mode = .configured
  | .stop _ => s.mode = .running
  | .chirp c _ => s.mode = .running ∧ s.chirpToken = true
      ∧ (c = .s9 → s.chirpScr.last = true → s.frameToken = true)
  | .frame _ _ => (s.mode = .running ∨ s.mode = .configured) ∧ s.frameToken = true

/-- What control keeps: `HALTED` exactly when `SEQ = HALT` and exactly when `FAULT.CODE` is not 0 (R352, R355), and the mode
and tokens each position needs. -/
def ControlInv (s : State) : Prop :=
  (s.mode = .halted ↔ s.seq = .halt) ∧ (s.mode = .halted ↔ s.fault.code ≠ 0)
    ∧ (∀ q, s.seq = .pos q → PosInv s q) ∧ (∀ p q, s.seq = .wait p q → PosInv s q)

/-- What a configured block keeps: the active configuration is one CFG.COMMIT accepts, the two views of R35 agree with it,
and the chirp counters are the decomposition of one index (R43). -/
def RunInv (s : State) : Prop :=
  ControlInv s
    ∧ (s.mode = .configured ∨ s.mode = .running →
        LegalConfig s.act s.spaces
          ∧ s.numVirtAnt.toNat = s.nrx * s.ntx ∧ s.chirpsPerFrame.toNat = s.nd * s.ntx
          ∧ s.txAntCount.toNat < s.ntx ∧ s.dopBinCount.toNat < s.nd
          ∧ s.chirpCount.toNat = s.dopBinCount.toNat * s.ntx + s.txAntCount.toNat)

end Sys2Proof.Claim

open Sys2Proof Sys2Proof.Machine Sys2Proof.Claim

/-! ## Encoding -/

/-- Every well-formed command is what its word decodes to, for every operand value (R111, R113 to R115). -/
def Obligations.DecodeOfEncode : Prop := ∀ i : Instr, i.wellFormed = true → decode (encode i) = .ok i

/-- A word that decodes to a command is the word of that command and of no other: no bit of it is dropped (R112, R117). -/
def Obligations.AcceptedWordsAreEncodings : Prop :=
  ∀ (w : Word) (i : Instr), decode w = .ok i → i.wellFormed = true ∧ encode i = w

/-- The command words printed in the spec's examples decode to the commands they stand for. -/
def Obligations.PrintedWordsDecode : Prop :=
  decode 0x11000025 = .ok (.bmpSet 37) ∧ decode 0x308B0000 = .ok (.dmaCfg 11 false false false true)
    ∧ decode 0x320B0000 = .ok (.dmaRetrig 11) ∧ decode 0x41000007 = .ok (.cfarRng 7)
    ∧ decode 0x61000032 = .ok (.xyEst 50) ∧ decode 0x20000000 = .ok (.winGen .win1d .blackman)
    ∧ decode 0x72000000 = .ok .outAsm ∧ decode 0x00000001 = .error .reservedBitSet
    ∧ decode 0x04000000 = .error .unlistedOpcode

/-! ## The step, the command port, the modes -/

/-- When the environment names the sequencer and the accepted word decodes to `i`, the step is `exec i`, on the state with
the agenda moved on and the step counted; and `withFetchWord` places a word so that the very next step runs it. -/
def Obligations.StepRunsTheDecodedCommand : Prop :=
  ∀ (s : State) (w : Word) (i : Instr), decode w = .ok i →
    (∀ rest, s.agenda = .seq :: rest → s.seq = .cmd w →
      step s = exec i { s with agenda := rest, tick := s.tick + 1 })
    ∧ step (s.withFetchWord 32 w.toNat) = exec i { s with seq := .cmd w, tick := s.tick + 1 }

/-- `CMD` (R28): accepted, refused with `CMD_OVERRUN`, or ignored; the sequencer then decodes the accepted word and runs what
it stands for, or raises `CMD_ILLEGAL` with the word's upper 24 bits (R112); the register reads 0 (R22). `ARG` (R26, R116, U7):
an operand is the value the register holds, or, where the host has written it since the word was accepted, one of those it has
held since; the record of these values, which an accepted word empties and a write while busy lengthens, is the model's own
(log entry 9). -/
def Obligations.CommandPortAndOperands : Prop :=
  ∀ (s : State) (w : Word),
    (s.mode ≠ .halted → s.seq.busy = false →
      act (.regWrite 0x00C w) s = .next { s with seq := .cmd w, argPast := Vector.replicate 6 [] }
        ∧ (∀ i, decode w = .ok i → seqStep { s with seq := .cmd w } = exec i { s with seq := .cmd w })
        ∧ ∀ e, decode w = .error e → seqStep { s with seq := .cmd w } = .next (faulted s 0x40 (w.toNat / 2 ^ 8)))
    ∧ (s.mode ≠ .halted → s.seq.busy = true → act (.regWrite 0x00C w) s = .next (faulted s 0x42 (w.toNat / 2 ^ 24)))
    ∧ (s.mode = .halted → act (.regWrite 0x00C w) s = .next s)
    ∧ s.readReg 0x00C = 0
    ∧ (∀ i, i < 6 → s.mode ≠ .halted → act (.regWrite (0x010 + 4 * i) w) s = .next
        { s with
          arg := tabSet s.arg i w
          argPast := if s.seq.busy then tabSet s.argPast i (tabGet s.arg i 0 :: tabGet s.argPast i []) else s.argPast })
    ∧ ∀ i, (tabGet s.argPast i [] = [] → s.operand i = tabGet s.arg i 0)
      ∧ s.operand i ∈ tabGet s.arg i 0 :: tabGet s.argPast i []

/-- The two ways a word is refused before its operands are looked at (R112, R117, R130 stages 1 and 2): a word that is no
command halts the block with `CMD_ILLEGAL` and its upper 24 bits; a command in a mode whose row of R131 does not list it
raises `CMD_MODE` with its opcode; neither does anything else. -/
def Obligations.RefusedCommandsHalt : Prop :=
  (∀ (s : State) (w : Word) (e : DecodeError), s.seq = .cmd w → decode w = .error e →
      seqStep s = .next (faulted s 0x40 (w.toNat / 2 ^ 8)))
    ∧ ∀ (i : Instr) (s : State), i.opcode ∉ modeTable s.mode → exec i s = .next (faulted s 0x41 i.opcode)

/-- The mode changes only as R131 says: CFG.COMMIT, RUN.START, RUN.STOP, a Fatal, or reset. -/
def Obligations.ModeChangesOnlyAsListed : Prop :=
  ∀ (s t : State), step s = .next t → t.mode ≠ s.mode →
    (t.mode = .unconfigured ∧ s.agenda.head? = some .reset)
    ∨ (t.mode = .halted ∧ t.seq = .halt ∧ t.irqStatus.getLsbD 1 = true)
    ∨ (s.mode = .unconfigured ∧ t.mode = .configured ∧ ∃ w, s.seq = .cmd w ∧ decode w = .ok .cfgCommit)
    ∨ (s.mode = .configured ∧ t.mode = .running ∧ ∃ w, s.seq = .cmd w ∧ decode w = .ok .runStart)
    ∨ (t.mode = .configured
        ∧ ((∃ w, s.mode = .running ∧ s.seq = .cmd w ∧ decode w = .ok .runStop) ∨ ∃ p, s.seq = .pos (.stop p)))

/-- `Fatal(code, info)` (R352): the first is recorded, the block halts, bit 1 of `IRQ_STATUS` is set, nothing else changes;
and `STATUS` (R30) at every position of the sequencer: the mode, `BUSY` but in `IDLE` and `HALT`, `WAITING` in a wait, the
tokens, and `SEQ_STATE`, in a wait that of the position it resumes at. -/
def Obligations.FatalEffects : Prop :=
  ∀ (s : State) (f : Fatal),
    let place (q : Pos) : Nat :=
      match q with
      | .complete | .stop _ | .angle _ => 0x1000
      | .chirp _ _ => 0x2000
      | .frame _ _ => 0x3000
    let modeBits : Nat := match s.mode with | .unconfigured => 0 | .configured => 1 | .running => 2 | .halted => 3
    let seqBits : Nat :=
      match s.seq with
      | .idle => 0
      | .cmd _ => 0x1010
      | .pos q => 0x10 + place q
      | .wait _ q => 0x30 + place q
      | .halt => 0x4000
    let tokens : Nat := (if s.chirpToken then 0x100 else 0) + (if s.frameToken then 0x200 else 0)
    s.fatal f = faulted s f.code.num f.info
      ∧ (s.fatal f).statusReg = BitVec.ofNat 32 (3 + tokens + 0x4000)
      ∧ s.statusReg = BitVec.ofNat 32 (modeBits + tokens + seqBits)
      ∧ (s.seq.busy = true ↔ s.seq ≠ .idle ∧ s.seq ≠ .halt)

/-- No step but reset leaves a halted block, and in it no step of the block does anything (R355), nor does a write of a register
(U2, log entry 12): only the host's memory writes with their records of broken ownership, and what its reads answer move; every
other field of the state is as before. -/
def Obligations.OnlyResetLeavesHalted : Prop :=
  ∀ (s t : State), s.mode = .halted → s.seq = .halt → step s = .next t → s.agenda.head? ≠ some .reset →
    t = { s with
        mem := t.mem, raced := t.raced, lateSamples := t.lateSamples
        agenda := t.agenda, tick := t.tick, busData := t.busData, memData := t.memData }
      ∧ ((∀ a bs, s.agenda.head? ≠ some (.memWrite a bs)) →
        t.mem = s.mem ∧ t.raced = s.raced ∧ t.lateSamples = s.lateSamples)

/-- Reset (R390, R391): every register whose reset value the map states reads that value, the sequencer is idle, the active
configuration is 0, every channel is cleared with its transfer, and memory keeps every byte. -/
def Obligations.ResetEvent : Prop :=
  ∀ s : State, ∃ t, act .reset s = .next t
    ∧ (∀ off, off < 0x800 ∨ (0x1800 ≤ off ∧ off < 0x2000) ∨ (0x3800 ≤ off ∧ off < 0x3860) →
        t.readReg off = if off = 0x054 then 64 else 0)
    ∧ t.mode = .unconfigured ∧ t.seq = .idle ∧ t.act = Cfg.zero ∧ t.irq = false
    ∧ (∀ p, t.chan p = Chan.zero) ∧ t.mem = s.mem ∧ t.spaces = s.spaces

/-! ## Invariants of every step -/

/-- Every step keeps memory in its canonical form, the reserved interrupt bits 0 and the lists inside their tables. -/
def Obligations.StepKeepsStoreInv : Prop := ∀ s t : State, StoreInv s → step s = .next t → StoreInv t

/-- Every step keeps the link between mode, sequencer position, fault register and tokens (R36, R131, R240, R352, R355). -/
def Obligations.StepKeepsControlInv : Prop := ∀ s t : State, ControlInv s → step s = .next t → ControlInv t

/-- Every step keeps the active configuration legal and the chirp counters one decomposed index (R35, R43). -/
def Obligations.StepKeepsRunInv : Prop := ∀ s t : State, RunInv s → step s = .next t → RunInv t

/-- The invariants hold after reset. -/
def Obligations.InvariantsHoldAtReset : Prop := StoreInv State.reset ∧ RunInv State.reset

/-- The active configuration is written by CFG.COMMIT and reset alone, the window tables by WIN.GEN and reset alone, the
staging registers by the host and reset alone (R31, R49, R59). -/
def Obligations.ConfigurationHasOneWriter : Prop :=
  ∀ (s t : State), step s = .next t → s.agenda.head? ≠ some .reset →
    (t.act ≠ s.act → ∃ w, s.seq = .cmd w ∧ decode w = .ok .cfgCommit)
    ∧ ((t.win1d ≠ s.win1d ∨ t.win1dInfo ≠ s.win1dInfo) →
        ∃ w kind, s.seq = .cmd w ∧ decode w = .ok (.winGen .win1d kind))
    ∧ ((t.win2d ≠ s.win2d ∨ t.win2dInfo ≠ s.win2dInfo) →
        ∃ w kind, s.seq = .cmd w ∧ decode w = .ok (.winGen .win2d kind))
    ∧ (t.stg ≠ s.stg → ∃ off w, s.agenda.head? = some (.regWrite off w))

/-- What a command can write, command by command: everything not listed for it is as before (R26, R27, R59), on every path,
those that end in a Fatal among them. A transform writes the bytes from `ARG[1]` up that its output has, OUT.ASM its four
payload buffers, no other command any byte. The results window, the record of late samples and the tables before a sequence are
the model's own (log entries 17, 26 and 11). -/
def Obligations.CommandsWriteOnlyTheirState : Prop :=
  ∀ (i : Instr) (s t : State), exec i s = .next t →
    t.stg = s.stg ∧ t.arg = s.arg ∧ t.argPast = s.argPast ∧ t.irqEnable = s.irqEnable ∧ t.waitMode = s.waitMode
      ∧ t.logAvail = s.logAvail ∧ t.spaces = s.spaces ∧ t.agenda = s.agenda ∧ t.tick = s.tick
      ∧ t.busData = s.busData ∧ t.memData = s.memData ∧ t.chirpScr = s.chirpScr ∧ t.frameScr = s.frameScr
      ∧ t.frameCount = s.frameCount
    ∧ (i.opcode ≠ 0x71 → t.before = s.before)
    ∧ (i ≠ .cfgCommit → t.act = s.act ∧ t.dcSum = s.dcSum ∧ t.numVirtAnt = s.numVirtAnt
        ∧ t.chirpsPerFrame = s.chirpsPerFrame ∧ t.bmpCursor = (if i = .bmpReset ∨ i = .bmpNext then t.bmpCursor
          else s.bmpCursor))
    ∧ (i.opcode ∉ [0x01, 0x02] → t.chirpCount = s.chirpCount ∧ t.txAntCount = s.txAntCount
        ∧ t.dopBinCount = s.dopBinCount ∧ t.dcCount = s.dcCount)
    ∧ (i.opcode ∉ [0x01, 0x02, 0x03, 0x70] → t.chirpToken = s.chirpToken)
    ∧ (i.opcode ∉ [0x01, 0x02, 0x71] → t.frameToken = s.frameToken)
    ∧ (i.opcode ∉ [0x01, 0x10, 0x11, 0x40] → t.bmpWord = s.bmpWord)
    ∧ (i.opcode ≠ 0x20 → t.win1d = s.win1d ∧ t.win1dInfo = s.win1dInfo ∧ t.win2d = s.win2d ∧ t.win2dInfo = s.win2dInfo)
    ∧ (i.opcode ∉ [0x01, 0x02, 0x03, 0x30, 0x31, 0x32, 0x33, 0x60] → t.dma = s.dma)
    ∧ (i.opcode ≠ 0x41 → t.rawObj = s.rawObj ∧ t.rawTruncCount = s.rawTruncCount)
    ∧ (i.opcode ∉ [0x01, 0x41] → t.numRawObj = s.numRawObj)
    ∧ (i.opcode ∉ [0x50, 0x60] → t.objOut = s.objOut ∧ t.objTruncCount = s.objTruncCount)
    ∧ (i.opcode ∉ [0x01, 0x50, 0x60] → t.numObjOut = s.numObjOut)
    ∧ (i.opcode ≠ 0x72 → t.outDesc = s.outDesc ∧ t.droppedFrames = s.droppedFrames)
    ∧ (i.opcode ∉ [0x01, 0x72] → t.numOutDesc = s.numOutDesc)
    ∧ (i.opcode ∉ [0x12, 0x13, 0x40, 0x41, 0x50, 0x60, 0x61] → t.res0 = s.res0)
    ∧ (i.opcode ∉ [0x41, 0x61] → t.res1 = s.res1)
    ∧ (i.opcode ∉ [0x03, 0x72] → t.window = s.window)
    ∧ (i.opcode ≠ 0x70 → t.lateSamples = s.lateSamples)
    ∧ (i.opcode ∉ [0x21, 0x22, 0x23, 0x72] → t.mem = s.mem ∧ t.raced = s.raced)
    ∧ (let onlyIn (ranges : List (Nat × Nat)) : Prop :=
        ∀ a, (∀ r ∈ ranges, a < r.1 ∨ r.1 + r.2 ≤ a) →
          byteAt t a = byteAt s a ∧ ∀ p, (p, a) ∈ t.raced ↔ (p, a) ∈ s.raced
      let dst := (s.operand 1).toNat
      (i = .fft1d → 1 ≤ s.nr → onlyIn [(dst, 4 * s.nr)])
        ∧ (i = .fft2d → 1 ≤ s.nd → onlyIn [(dst, 8 * s.nd)])
        ∧ (i = .fft3d → onlyIn [(dst, 512)])
        ∧ (i = .outAsm → onlyIn ([14, 15, 16, 17].map fun k => (s.buf k, bufferSize s.act k))))

/-! ## Control commands -/

/-- NOP (R137): its word, its illegal words, its only effect, and its mode check. -/
def Obligations.NopOnlyCompletes : Prop :=
  decode 0x00000000 = .ok .nop
    ∧ (∀ w : Word, w.toNat / 2 ^ 24 = 0 → w ≠ 0 → decode w = .error .reservedBitSet)
    ∧ ∀ s : State, (s.mode ≠ .halted → exec .nop s = .next (done s))
      ∧ (s.mode = .halted → exec .nop s = .next (faulted s 0x41 0x00))

/-- CFG.COMMIT (R132 step 1, R133): with a transfer in flight `DMA_PROTOCOL` for the least busy channel; otherwise the first
of the eleven checks that fails raises its Fatal with its number. That an unconsumed completion raises nothing is the model's
reading of R132 against the table of R353 (log entry 29, DEDUCED). -/
def Obligations.CommitRaisesTheFirstFailingCheck : Prop :=
  ∀ s : State, (s.mode = .unconfigured ∨ s.mode = .configured) →
    (∀ p, p < 12 → (s.chan p).xfer.isBusy = true → (∀ q, q < p → (s.chan q).xfer.isBusy = false) →
      exec .cfgCommit s = .next (faulted s 0x21 p))
    ∧ ((∀ p, p < 12 → (s.chan p).xfer.isBusy = false) →
      ∀ n, 1 ≤ n → n ≤ 11 → (∀ m, m < n → CheckHolds s.stg m) → ¬ CheckHolds s.stg n →
        exec .cfgCommit s = .next (faulted s (if n = 6 ∨ n = 7 then 0x02 else 0x01) n))

/-- The layout checks of CFG.COMMIT (R89 to R91, R95), after those of R133: the buffer named is the least that fails (the
order inside each check is the model's reading, log entry 10; that an unconsumed completion raises nothing, log entry 29). -/
def Obligations.CommitRaisesLayoutFaults : Prop :=
  ∀ s : State, (s.mode = .unconfigured ∨ s.mode = .configured) → (∀ p, p < 12 → (s.chan p).xfer.isBusy = false) →
    (∀ n, n < 12 → CheckHolds s.stg n) →
    (∀ k, k < 18 → (∀ j, j < k → BufferAligned s.stg j) → ¬ BufferAligned s.stg k →
      exec .cfgCommit s = .next (faulted s 0x03 k))
    ∧ ((∀ j, j < 18 → BufferAligned s.stg j) →
      (∀ k, k < 18 → (∀ j, j < k → BufferFits s.stg s.spaces j) → ¬ BufferFits s.stg s.spaces k →
        exec .cfgCommit s = .next (faulted s 0x03 k))
      ∧ ((∀ j, j < 18 → BufferFits s.stg s.spaces j) →
        (∀ j k, j < k → k < 18 → (∀ i l, i < j → i < l → l < 18 → PairOk s.stg i l) → ¬ PairOk s.stg j k →
          exec .cfgCommit s = .next (faulted s 0x03 j))
        ∧ ((∀ i l, i < l → l < 18 → PairOk s.stg i l) → ¬ AdcFits s.stg s.spaces →
          exec .cfgCommit s = .next (faulted s 0x03 0xFF))))

/-- CFG.COMMIT on a legal staging configuration (R134): every effect, and nothing else. That the stored entries of `RAWOBJ` and
`OBJOUT` stay when their counts become 0 is the model's choice (log entry 24: a host read of them is a free value, R52, R53); that
a completion no wait has consumed is cleared here and raises nothing is log entry 29's, that its ownership ends log entry 25's. -/
def Obligations.CommitLatchesTheConfiguration : Prop :=
  ∀ s : State, (s.mode = .unconfigured ∨ s.mode = .configured) → (∀ p, p < 12 → (s.chan p).xfer.isBusy = false) →
    LegalConfig s.stg s.spaces →
    exec .cfgCommit s = .next (done
      { s with
        act := s.stg
        numVirtAnt := BitVec.ofNat 32 (s.stg.numRx.toNat * s.stg.numTx.toNat)
        chirpsPerFrame := BitVec.ofNat 32 (s.stg.numDop.toNat * s.stg.numTx.toNat)
        chirpCount := 0
        txAntCount := 0
        dopBinCount := 0
        dcCount := 0
        dcSum := Vector.replicate 256 ⟨0, 0⟩
        numRawObj := 0
        numObjOut := 0
        numOutDesc := 0
        chirpToken := false
        frameToken := false
        bmpWord := Vector.replicate 32 0
        bmpCursor := 0
        dma := withChans s 0 12 fun p _ => if p = 11 then Chan.zero else pipeline s.stg p
        mode := .configured })

/-- When a window table is usable (R165), and RUN.START (R135): its three ways to a Fatal, in order, and every effect when none
applies. -/
def Obligations.RunStartBeginsARun : Prop :=
  (∀ s : State, (s.winOk1D = true ↔ Usable s.win1dInfo s.ns) ∧ (s.winOk2D = true ↔ Usable s.win2dInfo s.nd))
  ∧ ∀ s : State, s.mode = .configured →
    (s.winOk1D = false → exec .runStart s = .next (faulted s 0x04 0))
    ∧ (s.winOk1D = true → s.winOk2D = false → exec .runStart s = .next (faulted s 0x04 1))
    ∧ (s.winOk1D = true → s.winOk2D = true →
      (∀ p, p < 12 → (s.chan p).xfer ≠ .idle → (∀ q, q < p → (s.chan q).xfer = .idle) →
        exec .runStart s = .next (faulted s 0x21 p))
      ∧ (AllIdle s → exec .runStart s = .next (done
          { s with
            chirpCount := 0
            txAntCount := 0
            dopBinCount := 0
            chirpToken := false
            frameToken := false
            dcCount := if s.act.dcEnable = true ∧ s.dcCount.toNat < s.act.dcAvg.toNat * s.ntx then 0 else s.dcCount
            dma := withChans s 0 11 fun p _ => pipeline s.act p
            mode := .running })))

/-- RUN.STOP (R136), as the command and where a wait resumes it at channel `lo`: with no transfer pending from there on it
consumes the completions and the mode is `CONFIGURED`, and in mid-frame the cube is the host's to read (R233 (g), log entry 17);
otherwise it consumes those below the first pending channel and waits for that one. -/
def Obligations.RunStopDrainsTheChannels : Prop :=
  ∀ (s : State) (lo : Nat) (out : Host.Outcome State Fault Refusal) (u : State),
    (s.mode = .running ∧ lo = 0 ∧ out = exec .runStop s ∧ u = { s with chirpToken := false })
      ∨ (s.seq = .pos (.stop lo) ∧ out = seqStep s ∧ u = s) →
    ((∀ p, lo ≤ p → p < 12 → (s.chan p).xfer.isBusy = false) →
      out = .next (done
        { u with
          dma := withChans s lo 12 (fun _ c => { c with xfer := .idle })
          window := if s.chirpCount = 0 then s.window
            else { s.window with shown := placed s 4 :: (without s 4).shown }
          mode := .configured }))
    ∧ ∀ p, lo ≤ p → p < 12 → (s.chan p).xfer.isBusy = true → (∀ q, lo ≤ q → q < p → (s.chan q).xfer.isBusy = false) →
      out = .next
        { u with dma := withChans s lo p (fun _ c => { c with xfer := .idle }), seq := .wait p (.stop (p + 1)) }

/-! ## Doppler-line bitmap -/

/-- BMP.RESET, BMP.SET and BMP.TEST (R151 to R153): their words, all bits and the cursor cleared, one bit set, one bit read,
nothing else changed; an index that is no Doppler bin is `BAD_INDEX`, another mode `CMD_MODE`. -/
def Obligations.BitmapResetSetAndTest : Prop :=
  decode 0x10000000 = .ok .bmpReset
    ∧ (∀ i, i < 2 ^ 16 → decode (0x11000000 ||| BitVec.ofNat 32 i) = .ok (.bmpSet i)
      ∧ decode (0x12000000 ||| BitVec.ofNat 32 i) = .ok (.bmpTest i))
    ∧ ∀ (s : State) (i : Nat),
      (s.mode = .configured →
        exec .bmpReset s = .next (done { s with bmpWord := Vector.replicate 32 0, bmpCursor := 0 }))
      ∧ (s.mode = .configured → s.nd ≤ 1024 → i < s.nd →
        ∃ t, exec (.bmpSet i) s = .next (done t) ∧ t = { s with bmpWord := t.bmpWord }
          ∧ ∀ j, t.bmpBit j = (s.bmpBit j || decide (j = i)))
      ∧ (s.mode = .configured → i < s.nd →
        exec (.bmpTest i) s = .next (done { s with res0 := if s.bmpBit i then 1 else 0 }))
      ∧ (s.mode = .configured → s.nd ≤ i →
        exec (.bmpSet i) s = .next (faulted s 0x31 i) ∧ exec (.bmpTest i) s = .next (faulted s 0x31 i))
      ∧ (s.mode ≠ .configured →
        exec .bmpReset s = .next (faulted s 0x41 0x10) ∧ exec (.bmpSet i) s = .next (faulted s 0x41 0x11)
          ∧ exec (.bmpTest i) s = .next (faulted s 0x41 0x12))

/-- BMP.NEXT (R154): its word and its mode; the least set position at or above the cursor, and the cursor past it; with none,
`BITMAP_EXHAUSTED`. -/
def Obligations.BmpNextFindsTheLeastBit : Prop :=
  decode 0x13000000 = .ok .bmpNext
    ∧ (∀ s : State, s.mode ≠ .configured → exec .bmpNext s = .next (faulted s 0x41 0x13))
    ∧ ∀ s : State, s.mode = .configured → s.nd ≤ 1024 →
    (∀ i, s.bmpCursor.toNat ≤ i → i < 32 * max (s.nd / 32) 1 → s.bmpBit i = true →
      (∀ j, s.bmpCursor.toNat ≤ j → j < i → s.bmpBit j = false) →
      exec .bmpNext s = .next (done { s with res0 := BitVec.ofNat 32 i, bmpCursor := BitVec.ofNat 11 (i + 1) }))
    ∧ ((∀ i, s.bmpCursor.toNat ≤ i → i < 32 * max (s.nd / 32) 1 → s.bmpBit i = false) →
      exec .bmpNext s = .next (faulted s 0x30 s.bmpCursor.toNat))

/-- Setting a set of bins after a reset and iterating yields exactly that set in ascending order, and one more BMP.NEXT is the
Fatal `BITMAP_EXHAUSTED` (R155, R406). -/
def Obligations.BitmapIteratesTheSetBins : Prop :=
  ∀ (s : State) (S : List Nat), s.mode = .configured → LegalGeometry s.act → S.Nodup → (∀ i ∈ S, i < s.nd) →
    ∃ L, L.Perm S ∧ L.Pairwise (· < ·)
      ∧ nextIndices S.length (afterAll (.bmpReset :: S.map .bmpSet) s) = L
      ∧ (afterAll (.bmpReset :: S.map .bmpSet ++ List.replicate (S.length + 1) .bmpNext) s).fault.code
        = (if s.fault.code = 0 then 0x30 else s.fault.code)
      ∧ (afterAll (.bmpReset :: S.map .bmpSet ++ List.replicate (S.length + 1) .bmpNext) s).mode = .halted

/-! ## Windows -/

/-- WIN.GEN (R162): the operand checks in order, the table it writes, and nothing else. The entries, `WinCoef` (R161, R163, their
last bit log entry 5's): at most `oneQ - 1`, and that for the rectangular window; 0 at the first position of the others; the
printed values; and for a window of `2^e + 1` positions the formulas over the cosines of the twiddle ROM, to within the rounding
of both. -/
def Obligations.WinGenFillsTheTable : Prop :=
  (∀ (kind : WinKind) (L n q : Nat), winCoef kind L n q ≤ q - 1)
  ∧ (∀ L n q : Nat, winCoef .rectangular L n q = q - 1)
  ∧ (∀ L q : Nat, 2 ≤ L → winCoef .blackman L 0 q = 0 ∧ winCoef .hanning L 0 q = 0)
  ∧ (List.range 8).map (fun n => winCoef .blackman 16 n 32768) = [0, 549, 2526, 6579, 12911, 20644, 27828, 32183]
  ∧ (List.range 8).map (fun n => winCoef .hanning 16 n 32768) = [0, 1416, 5421, 11321, 18097, 24576, 29639, 32410]
  ∧ (List.range 8).map (fun n => winCoef .hanning 16 n 524288)
    = [0, 22664, 86735, 181137, 289546, 393216, 474223, 518560]
  ∧ (∀ e n q : Nat, 1 ≤ e → e ≤ 9 → n ≤ 2 ^ e → 1 ≤ q → q ≤ 2 ^ 31 →
    let A : Int := 2147483647
    let C (k : Nat) : Int := (tw32 (2 ^ e) k).re
    |2 * A * (winCoef .hanning (2 ^ e + 1) n q : Int) - q * (A - C n)| ≤ 2 * A + q
      ∧ |100 * A * (winCoef .blackman (2 ^ e + 1) n q : Int) - q * (42 * A - 50 * C n + 8 * C (2 * n))| ≤ 100 * A + 30 * q)
  ∧ ∀ (s : State) (table : WinTable) (kind : WinKind), (s.mode = .unconfigured ∨ s.mode = .configured) →
    let L := (s.operand 0).toNat
    let G := (s.operand 1).toNat
    let Q := s.operand 2
    let ok1 := 2 ≤ L ∧ L ≤ 1024
    let ok2 := 1 ≤ G ∧ G ≤ L ∧ G ≤ 512
    let ok3 := 1 ≤ Q.toNat ∧ Q.toNat ≤ (match table with | .win1d => 2 ^ 15 | .win2d => 2 ^ 31)
    (kind = .notAWindow → exec (.winGen table kind) s = .next (faulted s 0x43 0xFF))
    ∧ (kind ≠ .notAWindow → ¬ ok1 → exec (.winGen table kind) s = .next (faulted s 0x43 0))
    ∧ (kind ≠ .notAWindow → ok1 → ¬ ok2 → exec (.winGen table kind) s = .next (faulted s 0x43 1))
    ∧ (kind ≠ .notAWindow → ok1 → ok2 → ¬ ok3 → exec (.winGen table kind) s = .next (faulted s 0x43 2))
    ∧ (kind ≠ .notAWindow → ok1 → ok2 → ok3 →
      let info : WinInfo := ⟨BitVec.ofNat 11 L, BitVec.ofNat 11 G, true, Q⟩
      ∃ t, exec (.winGen table kind) s = .next (done t)
        ∧ match table with
          | .win1d => t = { s with win1d := t.win1d, win1dInfo := info }
              ∧ ∀ n, n < 512 → tabGet t.win1d n 0
                = if n < G then BitVec.ofNat 16 (winCoef kind L n Q.toNat) else tabGet s.win1d n 0
          | .win2d => t = { s with win2d := t.win2d, win2dInfo := info }
              ∧ ∀ n, n < 512 → tabGet t.win2d n 0
                = if n < G then BitVec.ofNat 32 (winCoef kind L n Q.toNat) else tabGet s.win2d n 0)

/-- `WinIdx` (R164): forward below `G`, mirrored from `G` on, always inside the generated entries when `2 * G ≥ L`, and the
half table gives the coefficient of the full one at every position. -/
def Obligations.HalfTableEqualsFullTable : Prop :=
  ∀ (kind : WinKind) (L G n q : Nat), 2 ≤ L → n < L → L ≤ 2 * G → G ≤ L →
    (n < G → winIdx n L G = n) ∧ (G ≤ n → winIdx n L G = L - 1 - n) ∧ winIdx n L G < G
      ∧ winCoef kind L (winIdx n L G) q = winCoef kind L n q

/-! ## Transforms and magnitudes -/

/-- FFT1D (R176) where its accesses are admitted and own their bytes: the windowed range transform (R187) of the `Ns` samples
at `ARG[0]` is stored at `ARG[1]`, `4 * Nr` bytes, and nothing else changes; without a usable table, `CFG_WINDOW`. An address
that is not a multiple of 4 is `MEM_ALIGN` (R85), the first element outside its space `MEM_BOUNDS` (R86): of the source before
anything is stored, of the destination with the bins before it stored. -/
def Obligations.Fft1dTransformsTheBlock : Prop :=
  ∀ s : State, s.mode = .configured → LegalGeometry s.act →
    let src := (s.operand 0).toNat
    let dst := (s.operand 1).toNat
    let out := rangeSpectrum s (c16sAt s src s.ns)
    (s.winOk1D = false → exec .fft1d s = .next (faulted s 0x04 0))
    ∧ (s.winOk1D = true → src % 4 ≠ 0 → exec .fft1d s = .next (faulted s 0x51 src))
    ∧ (s.winOk1D = true → src % 4 = 0 → ∀ j, FirstOutside s false src 4 s.ns j →
      exec .fft1d s = .next (faulted s 0x50 (src + 4 * j)))
    ∧ (s.winOk1D = true → Readable s src (4 * s.ns) 4 →
      (dst % 4 ≠ 0 → exec .fft1d s = .next (faulted s 0x51 dst))
      ∧ (dst % 4 = 0 → ∀ j, FirstOutside s true dst 4 s.nr j → MayWrite s dst (4 * j) →
        ∃ t, exec .fft1d s = .next (faulted t 0x50 (dst + 4 * j)) ∧ Stores s t dst (c16Bytes (out.take j)))
      ∧ (Writable s dst (4 * s.nr) 4 →
        out.length = s.nr ∧ ∃ t, exec .fft1d s = .next (done t) ∧ Stores s t dst (c16Bytes out)))

/-- FFT2D (R177), as FFT1D: `Nd` samples of 4 bytes in, `Nd` bins of 8 bytes out, by the windowed Doppler transform (R187). -/
def Obligations.Fft2dTransformsTheBlock : Prop :=
  ∀ s : State, s.mode = .configured → LegalGeometry s.act →
    let src := (s.operand 0).toNat
    let dst := (s.operand 1).toNat
    let out := dopplerSpectrum s (c16sAt s src s.nd)
    (s.winOk2D = false → exec .fft2d s = .next (faulted s 0x04 1))
    ∧ (s.winOk2D = true → src % 4 ≠ 0 → exec .fft2d s = .next (faulted s 0x51 src))
    ∧ (s.winOk2D = true → src % 4 = 0 → ∀ j, FirstOutside s false src 4 s.nd j →
      exec .fft2d s = .next (faulted s 0x50 (src + 4 * j)))
    ∧ (s.winOk2D = true → Readable s src (4 * s.nd) 4 →
      (dst % 8 ≠ 0 → exec .fft2d s = .next (faulted s 0x51 dst))
      ∧ (dst % 8 = 0 → ∀ j, FirstOutside s true dst 8 s.nd j → MayWrite s dst (8 * j) →
        ∃ t, exec .fft2d s = .next (faulted t 0x50 (dst + 8 * j)) ∧ Stores s t dst (c32Bytes (out.take j)))
      ∧ (Writable s dst (8 * s.nd) 8 →
        out.length = s.nd ∧ ∃ t, exec .fft2d s = .next (done t) ∧ Stores s t dst (c32Bytes out)))

/-- FFT3D (R178): 64 values of 8 bytes in, their transform out (R187), in every geometry; its accesses fail as those of FFT1D
do, at addresses that are no multiple of 8 and at the first element outside its space. -/
def Obligations.Fft3dTransformsTheBlock : Prop :=
  ∀ s : State, s.mode = .configured →
    let src := (s.operand 0).toNat
    let dst := (s.operand 1).toNat
    let out := transform true 6 (c32sAt s src 64)
    (src % 8 ≠ 0 → exec .fft3d s = .next (faulted s 0x51 src))
    ∧ (src % 8 = 0 → ∀ j, FirstOutside s false src 8 64 j → exec .fft3d s = .next (faulted s 0x50 (src + 8 * j)))
    ∧ (Readable s src 512 8 →
      (dst % 8 ≠ 0 → exec .fft3d s = .next (faulted s 0x51 dst))
      ∧ (dst % 8 = 0 → ∀ j, FirstOutside s true dst 8 64 j → MayWrite s dst (8 * j) →
        ∃ t, exec .fft3d s = .next (faulted t 0x50 (dst + 8 * j)) ∧ Stores s t dst (c32Bytes (out.take j)))
      ∧ (Writable s dst 512 8 →
        out.length = 64 ∧ ∃ t, exec .fft3d s = .next (done t) ∧ Stores s t dst (c32Bytes out)))

/-- The two engines compute the transform of R173 stage by stage, over twiddles that are the rounded roots of unity of R170 and
R171, whose last bit is log entry 5's; a transform of `2^m` points has `2^m` outputs, and each fits its engine's word, whatever
the input: saturation, never wrap-around (R183). -/
def Obligations.TransformsFollowTheStages : Prop :=
  (∀ (m : Nat) (x : List Cx), 1 ≤ m →
    fft .k16 m x = transform false m x ∧ fft .k32 m x = transform true m x
    ∧ (fft .k16 m x).length = 2 ^ m ∧ (fft .k32 m x).length = 2 ^ m
    ∧ (∀ z ∈ fft .k16 m x, -32768 ≤ z.re ∧ z.re ≤ 32767 ∧ -32768 ≤ z.im ∧ z.im ≤ 32767)
    ∧ (∀ z ∈ fft .k32 m x, -2147483648 ≤ z.re ∧ z.re ≤ 2147483647 ∧ -2147483648 ≤ z.im ∧ z.im ≤ 2147483647))
    ∧ RootsOfUnity tw16 32767 ∧ RootsOfUnity tw32 2147483647

/-- `LOG2Q8` and `LogMag` (R179, R180): 0 at 0, the formula elsewhere, the printed values, monotone, and at most 8064 on a
`c32` value, so that eight antennas fit a 16-bit cell. -/
def Obligations.LogMagnitude : Prop :=
  log2q8 0 = 0
    ∧ (∀ m e : Nat, 2 ^ e ≤ m → m < 2 ^ (e + 1) → log2q8 m = 256 * e + (m - 2 ^ e) * 256 / 2 ^ e)
    ∧ log2q8 1 = 0 ∧ log2q8 2 = 256 ∧ log2q8 3 = 384 ∧ log2q8 5 = 576 ∧ log2q8 1000 = 2548 ∧ log2q8 65535 = 4095
    ∧ log2q8 (2 ^ 31) = 7936
    ∧ (∀ m n : Nat, m ≤ n → log2q8 m ≤ log2q8 n)
    ∧ ∀ z : Cx, -2147483648 ≤ z.re → z.re ≤ 2147483647 → -2147483648 ≤ z.im → z.im ≤ 2147483647 →
      logMag z = log2q8 (z.re * z.re + z.im * z.im).toNat / 2 ∧ logMag z ≤ 8064 ∧ 8 * logMag z < 2 ^ 16

/-- The arithmetic primitives of R9; the short names of R13 and how the tables are indexed (R47, R48, R52); the byte order and the
element layouts of R83 and R84; the spaces and their bounds (R81, R82, R86). -/
def Obligations.PrimitivesAndNames : Prop :=
  (∀ v : Int, rndShr v 0 = v)
    ∧ (∀ (v : Int) (k : Nat), rndShr v (k + 1) = (v + 2 ^ k) / 2 ^ (k + 1)
      ∧ 2 ^ (k + 1) * rndShr v (k + 1) ≤ v + 2 ^ k ∧ v + 2 ^ k < 2 ^ (k + 1) * (rndShr v (k + 1) + 1))
    ∧ (∀ v : Int, sat16 v = max (-32768) (min v 32767) ∧ sat32 v = max (-2147483648) (min v 2147483647)
      ∧ satu16 v = max 0 (min v 65535))
    ∧ (∀ n : Nat, isqrt n * isqrt n ≤ n ∧ n < (isqrt n + 1) * (isqrt n + 1))
    ∧ (∀ m i : Nat, i < 2 ^ m → bitrev m i < 2 ^ m ∧ bitrev m (bitrev m i) = i
      ∧ ∀ b, b < m → (bitrev m i).testBit b = i.testBit (m - 1 - b))
    ∧ (∀ n v : Nat, popcount n v = ∑ b ∈ Finset.range n, (v / 2 ^ b) % 2)
    ∧ (∀ s : State,
      s.nrx = s.act.numRx.toNat ∧ s.ntx = s.act.numTx.toNat ∧ s.ns = s.act.numAdc.toNat ∧ s.nr = s.act.numRange.toNat
        ∧ s.nd = s.act.numDop.toNat ∧ s.nv = s.nrx * s.ntx ∧ s.ncf = s.nd * s.ntx
        ∧ (∀ k, s.buf k = baseOf s.act k)
        ∧ (∀ (p q : Nat) (c : Chan), p < 12 → (s.setChan p c).chan q = if q = p then c else s.chan q)
        ∧ (∀ i, s.bmpBit i = (tabGet s.bmpWord (i / 32) 0).getLsbD (i % 32))
        ∧ s.rawList.length = min s.numRawObj.toNat 200
        ∧ ∀ j, j < s.rawList.length → listGet s.rawList j default = tabGet s.rawObj j default)
    ∧ (∀ (b : Byte) (bs : List Byte), leNat [] = 0 ∧ leNat (b :: bs) = b.toNat + 256 * leNat bs)
    ∧ (∀ n v : Nat, (leBytes n v).length = n
      ∧ ∀ k, k < n → listGet (leBytes n v) k 0 = BitVec.ofNat 8 (v / 256 ^ k))
    ∧ (∀ n v : Nat, 1 ≤ n →
      let z := cxOf n v
      z.re % 2 ^ n = ((v % 2 ^ n : Nat) : Int) ∧ z.im % 2 ^ n = ((v / 2 ^ n % 2 ^ n : Nat) : Int)
        ∧ -(2 ^ (n - 1)) ≤ z.re ∧ z.re < 2 ^ (n - 1) ∧ -(2 ^ (n - 1)) ≤ z.im ∧ z.im < 2 ^ (n - 1))
    ∧ (∀ (n : Nat) (z : Cx), (cxBits n z : Int) = z.re % 2 ^ n + 2 ^ n * (z.im % 2 ^ n))
    ∧ ∀ (c : Spaces) (write : Bool) (a n : Nat), tierOf a = a / 2 ^ 30 ∧ offsetOf a = a % 2 ^ 30
      ∧ c.capacity 0 = 8 * c.tierA.val ∧ c.capacity 1 = 8 * c.tierB.val ∧ c.capacity 2 = 8 * c.tierC.val
      ∧ c.capacity 3 = 8 * c.adcBuf.val
      ∧ (c.admits write a n = true ↔
        tierOf a < 4 ∧ offsetOf a + n ≤ c.capacity (tierOf a) ∧ (write = true → tierOf a ≠ 3))
      ∧ (c.hostAdmits write a n = true ↔
        tierOf a < 4 ∧ offsetOf a + n ≤ c.capacity (tierOf a) ∧ (write = false → tierOf a ≠ 3))

/-! ## DMA -/

/-- DMA.CFG (R205): the three checks in order, every register it writes, and nothing else. -/
def Obligations.DmaCfgWritesTheDescriptor : Prop :=
  ∀ (s : State) (p : Nat) (nullSrc nullDst prio ien : Bool), s.mode = .configured →
    let esize : Half := (s.operand 2).truncate 16
    let ecount : Half := (s.operand 2 >>> 16).truncate 16
    (12 ≤ p → exec (.dmaCfg p nullSrc nullDst prio ien) s = .next (faulted s 0x20 p))
    ∧ (p < 12 → (s.chan p).xfer ≠ .idle → exec (.dmaCfg p nullSrc nullDst prio ien) s = .next (faulted s 0x21 p))
    ∧ (p < 12 → (s.chan p).xfer = .idle → esize = 0 ∨ ecount = 0 →
      exec (.dmaCfg p nullSrc nullDst prio ien) s = .next (faulted s 0x20 (0x10 + p)))
    ∧ (p < 12 → (s.chan p).xfer = .idle → esize ≠ 0 → ecount ≠ 0 →
      exec (.dmaCfg p nullSrc nullDst prio ien) s = .next (done (s.setChan p
        { desc :=
            { src := if nullSrc then 0 else s.operand 0, dst := if nullDst then 0 else s.operand 1
              esize := esize, ecount := ecount, sstride := s.operand 3, dstride := s.operand 4 }
          prio := prio, ien := ien, srcBound := !nullSrc, dstBound := !nullDst, configured := true, xfer := .idle })))

/-- DMA.START (R206, R207): the four checks in order, then `BUSY` with the snapshot, the bytes not yet moved. -/
def Obligations.DmaStartTakesTheSnapshot : Prop :=
  ∀ (s : State) (p : Nat), s.mode = .configured →
    let c := s.chan p
    (12 ≤ p → exec (.dmaStart p) s = .next (faulted s 0x20 p))
    ∧ (p < 12 → c.configured = false → exec (.dmaStart p) s = .next (faulted s 0x20 (0x20 + p)))
    ∧ (p < 12 → c.configured = true → c.srcBound = false ∨ c.dstBound = false →
      exec (.dmaStart p) s = .next (faulted s 0x20 (0x30 + p)))
    ∧ (p < 12 → c.configured = true → c.srcBound = true → c.dstBound = true → c.xfer ≠ .idle →
      exec (.dmaStart p) s = .next (faulted s 0x21 p))
    ∧ (p < 12 → c.configured = true → c.srcBound = true → c.dstBound = true → c.xfer = .idle →
      exec (.dmaStart p) s = .next (done (s.setChan p { c with xfer := .busy c.desc })))

/-- DMA.RETRIG (R208): its checks, then both addresses rebound and the transfer started. -/
def Obligations.DmaRetrigRebindsAndStarts : Prop :=
  ∀ (s : State) (p : Nat), s.mode = .configured →
    let c := s.chan p
    (12 ≤ p → exec (.dmaRetrig p) s = .next (faulted s 0x20 p))
    ∧ (p < 12 → c.configured = false → exec (.dmaRetrig p) s = .next (faulted s 0x20 (0x20 + p)))
    ∧ (p < 12 → c.configured = true → c.xfer ≠ .idle → exec (.dmaRetrig p) s = .next (faulted s 0x21 p))
    ∧ (p < 12 → c.configured = true → c.xfer = .idle →
      exec (.dmaRetrig p) s = .next (done (s.setChan p (restarted c (s.operand 0) (s.operand 1)))))

/-- DMA.WAIT and the wait itself (R209): with a completion it consumes it and completes, leaving the interrupt bit; without
one the sequencer waits, and takes no step until there is one; the command that waited then completes (R130 stage 5). -/
def Obligations.DmaWaitConsumesTheCompletion : Prop :=
  ∀ (s : State) (p : Nat),
    (s.mode = .configured → 12 ≤ p → exec (.dmaWait p) s = .next (faulted s 0x20 p))
    ∧ (s.mode = .configured → p < 12 → (s.chan p).xfer.isDone = true →
      exec (.dmaWait p) s = .next (done (s.setChan p { s.chan p with xfer := .idle })))
    ∧ (s.mode = .configured → p < 12 → (s.chan p).xfer.isDone = false →
      exec (.dmaWait p) s = .next { s with seq := .wait p .complete })
    ∧ (s.seq = .pos .complete → seqStep s = .next (done s))
    ∧ ∀ q, s.seq = .wait p q →
      ((s.chan p).xfer.isDone = false → seqStep s = .next s ∧ s.seqEnabled = false)
      ∧ ((s.chan p).xfer.isDone = true →
        seqStep s = .next { s.setChan p { s.chan p with xfer := .idle } with seq := .pos q })

/-- The perform step (R210, R211): nothing unless the channel is busy and the block not halted; `DMA_ERROR` and no byte
written when a range is inadmissible; otherwise every element copied, the highest winning where they overlap, the flags and
the interrupt bit, and nothing else. The elements stand at the base plus a multiple of the stride (R204), and the bytes of a
footprint are those of its elements (R101). -/
def Obligations.PerformCopiesTheElements : Prop :=
  (∀ (d : Descr) (e a : Nat),
    d.srcAt e = d.src.toNat + e * d.sstride.toNat ∧ d.dstAt e = d.dst.toNat + e * d.dstride.toNat
      ∧ (d.readsAt a = true ↔ ∃ f, f < d.ecount.toNat ∧ d.srcAt f ≤ a ∧ a < d.srcAt f + d.esize.toNat)
      ∧ (d.writesAt a = true ↔ ∃ f, f < d.ecount.toNat ∧ InDst d f a))
  ∧ ∀ (s : State) (p : Nat),
    act (.dma p) s = .next (s.perform p)
    ∧ ((s.chan p).xfer.isBusy = false ∨ s.mode = .halted → s.perform p = s)
    ∧ ∀ d, p < 12 → (s.chan p).xfer = .busy d → s.mode ≠ .halted →
      (¬ RangesOk s d → s.perform p = faulted s 0x22 p)
      ∧ (RangesOk s d → Undisturbed s p d → ∃ t, s.perform p = t
        ∧ t = { s with
            mem := t.mem
            dma := (s.setChan p { s.chan p with xfer := .done d }).dma
            irqStatus := if (s.chan p).ien then s.irqStatus ||| BitVec.ofNat 32 (2 ^ (16 + p)) else s.irqStatus }
        ∧ (∀ e, e < d.ecount.toNat → ∀ k, k < d.esize.toNat →
            (∀ f, e < f → f < d.ecount.toNat → ¬ InDst d f (d.dstAt e + k)) →
            byteAt t (d.dstAt e + k) = byteAt s (d.srcAt e + k))
        ∧ ∀ a, (∀ e, e < d.ecount.toNat → ¬ InDst d e a) → byteAt t a = byteAt s a)

/-! ## Detection -/

/-- The CFAR noise estimate and test (R254): windows, edges, modes and the strict comparison, in ascending order; `S` stays
below `2^26` on 16-bit data for windows that fit. -/
def Obligations.CfarDetectsAboveNoise : Prop :=
  ∀ (c : CfarCfg) (x : List Nat),
    (∀ i, i < x.length → cfarNoise c x i = noiseSum c x i / 2 ^ c.noiseDivShift.toNat)
    ∧ (∀ i, i ∈ cfar c x ↔ i < x.length ∧ cfarNoise c x i + c.threshold.toNat < listGet x i 0)
    ∧ (cfar c x).Pairwise (· < ·)
    ∧ ((∀ v ∈ x, v < 2 ^ 16) → ∀ i, noiseSum c x i < 2 ^ 26)

/-- A single peak over a flat floor is detected exactly when the threshold is below the peak's height over the floor, and no
other index ever is, in every mode, when the divisor is the window size (R259). -/
def Obligations.CfarFindsASinglePeak : Prop :=
  ∀ (c : CfarCfg) (n i floor peak : Nat), i < n → floor < peak → 1 ≤ c.winLen.toNat → c.avgMode ≠ 3 →
    2 ^ c.noiseDivShift.toNat = 2 * c.winLen.toNat →
    2 * (c.guardLen.toNat + c.winLen.toNat) + (if c.cyclic then 1 else 0) ≤ n →
    cfar c ((List.replicate n floor).set i peak) = if c.threshold.toNat < peak - floor then [i] else []

/-- CFAR.DOP (R255): the Doppler detections of the vector at `ARG[0]` set their bits, `RES[0]` counts them, nothing else
changes; an odd address is `MEM_ALIGN` (R85), the first element outside its space `MEM_BOUNDS` (R86). -/
def Obligations.CfarDopMarksTheDetections : Prop :=
  ∀ s : State, s.mode = .configured → 1 ≤ s.nd → s.nd ≤ 1024 →
    let src := (s.operand 0).toNat
    let found := cfar s.act.cfarDop (u16sAt s src s.nd)
    (src % 2 ≠ 0 → exec .cfarDop s = .next (faulted s 0x51 src))
    ∧ (src % 2 = 0 → ∀ j, FirstOutside s false src 2 s.nd j → exec .cfarDop s = .next (faulted s 0x50 (src + 2 * j)))
    ∧ (Readable s src (2 * s.nd) 2 →
      ∃ t, exec .cfarDop s = .next (done t)
        ∧ t = { s with bmpWord := t.bmpWord, res0 := BitVec.ofNat 32 found.length }
        ∧ ∀ j, t.bmpBit j = (s.bmpBit j || decide (j ∈ found)))

/-- CFAR.RNG (R256, R257): the detections of the line at `ARG[0]` are appended while the list has room, the rest counted;
`RES` holds both numbers, nothing else changes, the stored entries above the new count among them (the model's choice, log
entry 24: a host read of those is a free value); a line that is no Doppler bin is `BAD_INDEX`; then an odd address is
`MEM_ALIGN` (R85), the first element outside its space `MEM_BOUNDS` (R86). -/
def Obligations.CfarRngAppendsCandidates : Prop :=
  ∀ (s : State) (d : Nat), s.mode = .configured → s.numRawObj.toNat ≤ 200 → 1 ≤ s.nr →
    let src := (s.operand 0).toNat
    let x := u16sAt s src s.nr
    let found := cfar s.act.cfarRng x
    let kept := min found.length (200 - s.numRawObj.toNat)
    (s.nd ≤ d → exec (.cfarRng d) s = .next (faulted s 0x31 d))
    ∧ (d < s.nd → src % 2 ≠ 0 → exec (.cfarRng d) s = .next (faulted s 0x51 src))
    ∧ (d < s.nd → src % 2 = 0 → ∀ j, FirstOutside s false src 2 s.nr j →
      exec (.cfarRng d) s = .next (faulted s 0x50 (src + 2 * j)))
    ∧ (d < s.nd → Readable s src (2 * s.nr) 2 →
      ∃ t, exec (.cfarRng d) s = .next (done t)
        ∧ t = { s with
            rawObj := t.rawObj
            numRawObj := s.numRawObj + BitVec.ofNat 32 kept
            rawTruncCount := s.rawTruncCount + BitVec.ofNat 32 (found.length - kept)
            res0 := BitVec.ofNat 32 kept
            res1 := BitVec.ofNat 32 (found.length - kept) }
        ∧ (∀ j, j < kept → tabGet t.rawObj (s.numRawObj.toNat + j) default
            = ⟨BitVec.ofNat 16 (listGet found j 0), BitVec.ofNat 16 d,
                BitVec.ofNat 16 (listGet x (listGet found j 0) 0)⟩)
        ∧ ∀ j, j < s.numRawObj.toNat ∨ s.numRawObj.toNat + kept ≤ j → tabGet t.rawObj j default = tabGet s.rawObj j default)

/-! ## Grouping -/

/-- PKGRP.RUN (R271 to R273): the candidates inside the bounds that are not below a selected neighbour, in list order, the
first hundred as objects without coordinates, the rest counted; nothing else changes. That the stored entries at and above the
new count stay is the model's choice (log entry 24: a host read of those is a free value, R53). -/
def Obligations.PkgrpKeepsLocalMaxima : Prop :=
  ∀ s : State, s.mode = .configured →
    (s.act.pkScheme = false → (s.act.pkRange || s.act.pkDoppler) = true →
      1 ≤ s.nd ∧ Readable s (s.buf 5) (2 * s.nr * s.nd) 2) →
    let kept := s.rawList.filter (keeps s s.act.pkScheme)
    let n := min kept.length 100
    ∃ t, exec .pkgrpRun s = .next (done t)
      ∧ t = { s with
          objOut := t.objOut
          numObjOut := BitVec.ofNat 32 n
          objTruncCount := s.objTruncCount + BitVec.ofNat 32 (kept.length - n)
          res0 := BitVec.ofNat 32 n }
      ∧ (∀ j, j < n →
          let o := listGet kept j default
          tabGet t.objOut j default = ⟨o.range, o.doppler, o.peak, 0, 0, 0⟩)
      ∧ ∀ j, n ≤ j → tabGet t.objOut j default = tabGet s.objOut j default

/-- The two schemes (R274), each run by PKGRP.RUN on one and the same state: on a raw list without duplicate cells whose peaks
are the detection matrix's values, the objects of the matrix scheme are, in order, among those of the list scheme, unless the
latter's list overflows; and with both directions off both give the first hundred candidates in bounds. -/
def Obligations.SchemesAreRelated : Prop :=
  ∀ s : State, s.mode = .configured → 1 ≤ s.nd → Readable s (s.buf 5) (2 * s.nr * s.nd) 2 →
    (∀ q ∈ s.rawList, q.range.toNat < s.nr ∧ q.doppler.toNat < s.nd
      ∧ q.peak.toNat = numAt s (s.buf 5 + 2 * (q.range.toNat * s.nd + q.doppler.toNat)) 2) →
    (∀ j k, j < s.rawList.length → k < s.rawList.length → j ≠ k →
      (listGet s.rawList j default).range ≠ (listGet s.rawList k default).range
        ∨ (listGet s.rawList j default).doppler ≠ (listGet s.rawList k default).doppler) →
    let under (scheme : Bool) : State := { s with act := { s.act with pkScheme := scheme } }
    let inBounds := s.rawList.filter fun o =>
      decide (s.act.pkMin.toNat ≤ o.range.toNat) && decide (o.range.toNat ≤ s.act.pkMax.toNat)
    ∃ t0 t1, exec .pkgrpRun (under false) = .next (done t0) ∧ exec .pkgrpRun (under true) = .next (done t1)
      ∧ (t1.objTruncCount = s.objTruncCount → (objects t0).Sublist (objects t1))
      ∧ (s.act.pkRange = false → s.act.pkDoppler = false →
        ∀ t ∈ [t0, t1], objects t = (inBounds.take 100).map fun o => ⟨o.range, o.doppler, o.peak, 0, 0, 0⟩)

/-! ## Angle -/

/-- The first peak (R298): the least index at which the spectrum is greatest. -/
def Obligations.FirstPeakIsTheLeastGreatest : Prop :=
  ∀ P : List Nat, P.length = 64 →
    firstPeak P < 64 ∧ (∀ k, k < 64 → listGet P k 0 ≤ listGet P (firstPeak P) 0)
      ∧ (∀ k, k < firstPeak P → listGet P k 0 < listGet P (firstPeak P) 0)
      ∧ ((∀ v ∈ P, v = 0) → firstPeak P = 0)

/-- Coordinates (R299, R300): the formulas, `|x| ≤ R`, and `y` the integer square root of `R² - x²`. -/
def Obligations.CoordinatesOfABin : Prop :=
  ∀ (c : XyCfg) (k r : Nat), k < 64 → c.q ≤ 15 →
    let R := rangeQ c r
    let x := (xyOf c k r).1
    let y := (xyOf c k r).2
    R = ((r : Int) * c.rangeRes + 2 ^ (19 - c.q)) / 2 ^ (20 - c.q)
      ∧ spatialFreq k = (if k < 32 then (k : Int) else (k : Int) - 64)
      ∧ x = (R * 2 * spatialFreq k + 32) / 64
      ∧ -R ≤ x ∧ x ≤ R ∧ 0 ≤ y ∧ y * y ≤ R * R - x * x ∧ R * R - x * x < (y + 1) * (y + 1)

/-- XY.EST (R297): the estimate of the 64 values at `ARG[0]` packed into `RES`, and nothing else; a range index that is no
range bin is `BAD_INDEX`; then an address that is no multiple of 8 is `MEM_ALIGN` (R85), the first element outside its space
`MEM_BOUNDS` (R86). The estimate (R303): the coordinates of the first peak, and those of the greatest bin outside its main lobe
(R301), the first one met to the right of the lobe, where it exceeds the threshold's share of the peak (R302). -/
def Obligations.XyEstPacksTheEstimate : Prop :=
  (∀ (s : State) (r : Nat), s.mode = .configured →
    let src := (s.operand 0).toNat
    let pack (xy : Int × Int) : Word :=
      ((BitVec.ofInt 16 (sat16 xy.2)).zeroExtend 32 <<< 16) ||| (BitVec.ofInt 16 (sat16 xy.1)).zeroExtend 32
    (s.nr ≤ r → exec (.xyEst r) s = .next (faulted s 0x31 r))
    ∧ (r < s.nr → src % 8 ≠ 0 → exec (.xyEst r) s = .next (faulted s 0x51 src))
    ∧ (r < s.nr → src % 8 = 0 → ∀ j, FirstOutside s false src 8 64 j →
      exec (.xyEst r) s = .next (faulted s 0x50 (src + 8 * j)))
    ∧ (r < s.nr → Readable s src 512 8 →
      let est := xyEst (estimateCfg s) (u64sAt s src 64) r
      exec (.xyEst r) s = .next (done
        { s with
          res0 := pack est.1
          res1 := match est.2 with
            | none => 0
            | some xy => 0x80000000 ||| pack xy })))
    ∧ ∀ (c : XyCfg) (P : List Nat) (r : Nat), P.length = 64 →
      let k1 := firstPeak P
      (∃ a b, LobeOf P k1 a b)
      ∧ ∀ a b, LobeOf P k1 a b →
        let n := 63 - (a + b)
        let bin (j : Nat) : Nat := (k1 + b + 1 + j) % 64
        mainLobe P k1 = ((k1 + 64 - a) % 64, (k1 + b) % 64, a + b)
        ∧ (c.enable = false ∨ n = 0 → xyEst c P r = (xyOf c k1 r, none))
        ∧ (c.enable = true → ∀ j, j < n → (∀ i, i < n → listGet P (bin i) 0 ≤ listGet P (bin j) 0) →
          (∀ i, i < j → listGet P (bin i) 0 < listGet P (bin j) 0) →
          xyEst c P r = (xyOf c k1 r,
            if c.thresh * listGet P k1 0 < listGet P (bin j) 0 * 2 ^ 15 then some (xyOf c (bin j) r) else none))

/-- ANGLE.OBJ (R291, R295, R296): its checks; the shortcut of a single antenna; otherwise the fetch of the object's range bin
on channel 10 is started and awaited; and after the wait the estimate of the fetched rows is written and the command
completes. -/
def Obligations.AngleObjWritesTheEstimate : Prop :=
  ∀ (s : State) (i : Nat),
    (s.mode = .configured →
      let o := tabGet s.objOut i default
      (s.numObjOut.toNat ≤ i → exec (.angleObj i) s = .next (faulted s 0x31 i))
      ∧ (i < s.numObjOut.toNat → s.nv = 1 →
        exec (.angleObj i) s
          = .next (done (withEstimate s i ((0, rangeQ (estimateCfg s) o.range.toNat), none))))
      ∧ (i < s.numObjOut.toNat → s.nv ≠ 1 → s.winOk2D = false → exec (.angleObj i) s = .next (faulted s 0x04 1))
      ∧ (i < s.numObjOut.toNat → s.nv ≠ 1 → s.winOk2D = true → (s.chan 10).xfer ≠ .idle →
        exec (.angleObj i) s = .next (faulted s 0x21 10))
      ∧ (i < s.numObjOut.toNat → s.nv ≠ 1 → s.winOk2D = true → (s.chan 10).xfer = .idle →
        exec (.angleObj i) s = .next
          { s.setChan 10 (restarted (pipeline s.act 10) (BitVec.ofNat 32 (cubeCell s 0 o.range.toNat 0))
              (BitVec.ofNat 32 (s.buf 12))) with seq := .wait 10 (.angle i) }))
    ∧ (s.seq = .pos (.angle i) → Readable s (s.buf 12) (4 * s.nv * s.nd) 4 →
      let o := tabGet s.objOut i default
      seqStep s = .next (done (withEstimate s i
        (xyEst (estimateCfg s) (azimuthSpectrum s o.doppler.toNat) o.range.toNat))))

/-! ## The per-chirp sequence -/

/-- The chirp-available event (R357): ignored outside `RUNNING`, `TIMING_CHIRP` first, then `TIMING_FRAME`, else the token;
with the token, an idle sequencer's step is the start of the per-chirp sequence. CHIRP.PROC (R231) makes the same checks,
and its sequence ends as a command. Of the model's own record of late samples nothing is said. -/
def Obligations.ChirpAvailableEvent : Prop :=
  ∀ s : State,
    (s.mode ≠ .running → act .chirp s = .next s)
    ∧ (s.mode = .running → s.chirpToken = true → act .chirp s = .next (faulted s 0x10 s.chirpCount.toNat))
    ∧ (s.mode = .running → s.chirpToken = false → s.frameToken = true →
      act .chirp s = .next (faulted s 0x11 s.chirpCount.toNat))
    ∧ (s.mode = .running → s.chirpToken = false → s.frameToken = false →
      ∃ t, act .chirp s = .next t ∧ t = { s with chirpToken := true, lateSamples := t.lateSamples })
    ∧ (s.mode = .running → s.seq = .idle → s.chirpToken = true →
      s.seqEnabled = true ∧ seqStep s = .next { s with seq := .pos (.chirp .s1 false) })
    ∧ (s.mode = .running → s.chirpToken = true → exec .chirpProc s = .next (faulted s 0x10 s.chirpCount.toNat))
    ∧ (s.mode = .running → s.chirpToken = false → s.frameToken = true →
      exec .chirpProc s = .next (faulted s 0x11 s.chirpCount.toNat))
    ∧ (s.mode = .running → s.chirpToken = false → s.frameToken = false →
      ∃ t, exec .chirpProc s = .next t
        ∧ t = { s with chirpToken := true, seq := .pos (.chirp .s1 true), lateSamples := t.lateSamples })

/-- Steps of the per-chirp sequence (R232): the scratch of step 1, the wait of step 2, the fetches of steps 3 and 6, the
calibration count of step 5 and at its end the means of R235, the counters of step 7, the two waits and the frame token of step
8, and the token and the way on of step 9. That step 6 closes the host's window on the cube is log entry 17's, and the record of
the tables as they were is log entry 11's. -/
def Obligations.ChirpSequenceSteps : Prop :=
  ∀ (s : State) (byCmd : Bool),
    let slot := s.chirpScr.c % 2
    let total := s.act.dcAvg.toNat * s.ntx
    let acc : Bool := s.act.dcEnable && decide (s.dcCount.toNat < total)
    let sub : Bool := s.act.dcEnable && decide (s.dcCount.toNat = total)
    let go (u : State) (q : ChirpPos) : Host.Outcome State Fault Refusal := .next { u with seq := .pos (.chirp q byCmd) }
    (s.seq = .pos (.chirp .s1 byCmd) → seqStep s = go
      { s with
        chirpScr := ⟨s.chirpCount.toNat, s.txAntCount.toNat, s.dopBinCount.toNat, acc, sub, false⟩
        before := tablesOf s
        dcSum := if acc = true ∧ s.dcCount = 0 then Vector.replicate 256 ⟨0, 0⟩ else s.dcSum } .s2)
    ∧ (s.seq = .pos (.chirp .s2 byCmd) →
      (s.chirpScr.c < 2 → seqStep s = go s .s3)
      ∧ (2 ≤ s.chirpScr.c → (s.chan (2 + slot)).xfer.isDone = true →
        seqStep s = go (s.setChan (2 + slot) { s.chan (2 + slot) with xfer := .idle }) .s3)
      ∧ (2 ≤ s.chirpScr.c → (s.chan (2 + slot)).xfer.isDone = false →
        seqStep s = .next { s with seq := .wait (2 + slot) (.chirp .s3 byCmd) }))
    ∧ (s.seq = .pos (.chirp .s3 byCmd) → 1 ≤ s.nrx → (s.chan 0).configured = true → (s.chan 0).xfer = .idle →
      seqStep s = go (s.setChan 0 (restarted (s.chan 0) 0xC0000000 (BitVec.ofNat 32 (s.buf 0)))) (.s4 0))
    ∧ (s.seq = .pos (.chirp .s5 byCmd) →
      (s.chirpScr.acc = false → seqStep s = go s .s6)
      ∧ (s.chirpScr.acc = true → ∀ k, s.act.dcAvg.toNat = 2 ^ k → s.nrx ≤ 4 → binsOf s ≤ 32 →
        ∃ t, seqStep s = go t .s6 ∧ t = { s with dcCount := s.dcCount + 1, dcSum := t.dcSum }
          ∧ ∀ e, e < 256 →
            let o := tabGet s.dcSum e default
            tabGet t.dcSum e default =
              if (s.dcCount + 1).toNat = total ∧ e / 128 < s.ntx ∧ e / 32 % 4 < s.nrx ∧ e % 32 < binsOf s then
                ⟨BitVec.ofInt 32 (roundShift o.re.toInt k), BitVec.ofInt 32 (roundShift o.im.toInt k)⟩
              else o))
    ∧ (s.seq = .pos (.chirp .s6 byCmd) → (s.chan (2 + slot)).configured = true → (s.chan (2 + slot)).xfer = .idle →
      seqStep s = go { s.setChan (2 + slot) (restarted (s.chan (2 + slot)) (BitVec.ofNat 32 (s.buf (2 + slot)))
        (BitVec.ofNat 32 (cubeCell s (s.chirpScr.tx * s.nrx) 0 s.chirpScr.d))) with
        window := without s 4 } .s7)
    ∧ (s.seq = .pos (.chirp .s7 byCmd) →
      seqStep s = go { s.moduloChain.1 with chirpScr := { s.chirpScr with last := s.moduloChain.2 } } .s8)
    ∧ (s.seq = .pos (.chirp .s8 byCmd) →
      let other := 2 + (1 - slot)
      (s.chirpScr.last = false → seqStep s = go s .s9)
      ∧ (s.chirpScr.last = true → (s.chan other).xfer.isDone = false →
        seqStep s = .next { s with seq := .wait other (.chirp .s8second byCmd) })
      ∧ (s.chirpScr.last = true → (s.chan other).xfer.isDone = true → (s.chan (2 + slot)).xfer.isDone = false →
        seqStep s = .next { freed s other with seq := .wait (2 + slot) (.chirp .s8set byCmd) })
      ∧ (s.chirpScr.last = true → (s.chan other).xfer.isDone = true → (s.chan (2 + slot)).xfer.isDone = true →
        seqStep s = go { freed (freed s other) (2 + slot) with frameToken := true } .s9))
    ∧ (s.seq = .pos (.chirp .s8second byCmd) →
      ((s.chan (2 + slot)).xfer.isDone = false →
        seqStep s = .next { s with seq := .wait (2 + slot) (.chirp .s8set byCmd) })
      ∧ ((s.chan (2 + slot)).xfer.isDone = true → seqStep s = go { freed s (2 + slot) with frameToken := true } .s9))
    ∧ (s.seq = .pos (.chirp .s8set byCmd) → seqStep s = go { s with frameToken := true } .s9)
    ∧ (s.seq = .pos (.chirp .s9 byCmd) →
      (s.chirpScr.last = true → seqStep s = .next { s with chirpToken := false, seq := .pos (.frame .s1 byCmd) })
      ∧ (s.chirpScr.last = false → byCmd = true → seqStep s = .next (done { s with chirpToken := false }))
      ∧ (s.chirpScr.last = false → byCmd = false → seqStep s = .next { s with chirpToken := false, seq := .idle }))

/-- Step 4 of the per-chirp sequence for antenna `rx` (R232): the wait for its samples; after it the fetch of the next antenna's
samples started, where there is one, the range transform of the fetched samples, accumulated in the window bins of `DCSUM` or
compensated by their means (R234), stored in the antenna's part of the output buffer, and nothing else; then the next antenna, or
step 5. -/
def Obligations.ChirpAntennaStep : Prop :=
  ∀ (s : State) (byCmd : Bool) (rx : Nat), LegalGeometry s.act → rx < s.nrx →
    (s.chirpScr.acc = true ∨ s.chirpScr.sub = true → s.act.dcEnable = true ∧ CheckHolds s.act 11) →
    let next := (rx + 1) % 2
    let u : State :=
      if rx + 1 < s.nrx then
        s.setChan next (restarted (s.chan next) (BitVec.ofNat 32 (0xC0000000 + 4 * ((rx + 1) * s.ns)))
          (BitVec.ofNat 32 (s.buf next)))
      else s
    let src := s.buf (rx % 2)
    let dst := s.buf (2 + s.chirpScr.c % 2) + 4 * (rx * s.nr)
    let X := rangeSpectrum s (c16sAt s src s.ns)
    let Y := if s.chirpScr.acc = false ∧ s.chirpScr.sub = true then offsetRemoved s s.chirpScr.tx rx X else X
    (s.seq = .pos (.chirp (.s4 rx) byCmd) →
      ((s.chan (rx % 2)).xfer.isDone = false →
        seqStep s = .next { s with seq := .wait (rx % 2) (.chirp (.s4body rx) byCmd) })
      ∧ ((s.chan (rx % 2)).xfer.isDone = true →
        seqStep s = seqStep { freed s (rx % 2) with seq := .pos (.chirp (.s4body rx) byCmd) }))
    ∧ (s.seq = .pos (.chirp (.s4body rx) byCmd) →
      (rx + 1 < s.nrx → (s.chan next).configured = true ∧ (s.chan next).xfer = .idle) →
      Readable u src (4 * s.ns) 4 → Writable u dst (4 * s.nr) 4 →
      ∃ t, seqStep s = .next { t with seq := .pos (.chirp (if rx + 1 < s.nrx then .s4 (rx + 1) else .s5) byCmd) }
        ∧ Stores { u with dcSum := t.dcSum } t dst (c16Bytes Y)
        ∧ ∀ e, e < 256 → tabGet t.dcSum e default
          = if s.chirpScr.acc = true then summed s s.chirpScr.tx rx X e else tabGet s.dcSum e default)

/-- `ModuloChain` (R236): the three counters, and the flag that is 1 exactly when the new chirp count is 0; so that, from the
counters RUN.START leaves, the chirp that ends the frame is the `Ncf`-th and no other, and the counters are then 0 again
(R239). -/
def Obligations.CountersCloseAtTheLastChirp : Prop :=
  ∀ s : State, LegalGeometry s.act → s.txAntCount.toNat < s.ntx → s.dopBinCount.toNat < s.nd →
    s.chirpCount.toNat = s.dopBinCount.toNat * s.ntx + s.txAntCount.toNat →
    let t := s.moduloChain.1
    let wrap : Bool := decide (s.txAntCount.toNat + 1 = s.ntx)
    t = { s with chirpCount := t.chirpCount, txAntCount := t.txAntCount, dopBinCount := t.dopBinCount }
      ∧ t.txAntCount.toNat = (if wrap then 0 else s.txAntCount.toNat + 1)
      ∧ t.dopBinCount.toNat = (if wrap then (s.dopBinCount.toNat + 1) % s.nd else s.dopBinCount.toNat)
      ∧ t.chirpCount.toNat = (s.chirpCount.toNat + 1) % (s.nd * s.ntx)
      ∧ s.moduloChain.2 = (wrap && decide ((s.dopBinCount.toNat + 1) % s.nd = 0))
      ∧ (s.moduloChain.2 = true ↔ t.chirpCount = 0)
      ∧ (s.chirpCount = 0 →
        (∀ n, 1 ≤ n → n ≤ s.ncf → ((chained n s).2 = true ↔ n = s.ncf)) ∧ (chained s.ncf s).1 = s)

/-- The calibration (R234, R235, R238): any spectrum is accumulated in, and compensated by, the entries of its window bins alone;
and `A = 2^k` equal spectra accumulated from a zero table become the mean that equals
them, and compensating one more leaves exactly 0 in every bin of the window and the other bins as they are. -/
def Obligations.CalibrationRemovesTheOffset : Prop :=
  (∀ (s : State) (X : List Cx) (tx rx : Nat), LegalGeometry s.act → CheckHolds s.act 11 → s.act.dcEnable = true →
    rx < s.nrx → X.length = s.nr →
    let t := s.dcAccumulate tx rx X (List.range s.dcBins)
    s.dcCompensate tx rx (List.range s.dcBins) X = offsetRemoved s tx rx X
      ∧ t = { s with dcSum := t.dcSum } ∧ ∀ e, e < 256 → tabGet t.dcSum e default = summed s tx rx X e)
  ∧ ∀ (s : State) (X : List Cx) (tx rx k : Nat), LegalGeometry s.act → CheckHolds s.act 11 → s.act.dcEnable = true →
    s.act.dcAvg.toNat = 2 ^ k → s.dcSum = Vector.replicate 256 ⟨0, 0⟩ → tx < s.ntx → rx < s.nrx → X.length = s.nr →
    (∀ z ∈ X, -32768 ≤ z.re ∧ z.re ≤ 32767 ∧ -32768 ≤ z.im ∧ z.im ≤ 32767) →
    let t := (accumulated X tx rx (2 ^ k) s).dcFinish
    let Y := t.dcCompensate tx rx (List.range s.dcBins) X
    (∀ b, b < binsOf s → (tabGet t.dcSum ((tx * 4 + rx) * 32 + b) default).val = listGet X (binOf s b) Cx.zero)
      ∧ (∀ b, b < binsOf s → listGet Y (binOf s b) Cx.zero = Cx.zero)
      ∧ ∀ j, (∀ b, b < binsOf s → binOf s b ≠ j) → listGet Y j Cx.zero = listGet X j Cx.zero

/-! ## The inter-frame sequence and the output -/

/-- FRAME.PROC (R321) and the steps of the inter-frame sequence (R322) but for the items of its Doppler pass: the window check,
the frame token and step 1, which clears the per-frame state and programs channels 4 to 10, or raises `DMA_PROTOCOL` for the
least that is not idle; the first fetch of step 2; the two waits of step 3; the lines of step 4 in ascending order, each with
the next one's fetch started before the body of CFAR.RNG (R326); step 5, the body of PKGRP.RUN (R327); step 6, the body of
ANGLE.OBJ for each grouped object (R328); step 7, the body of OUT.ASM; step 8, the frame counted and its token cleared. The
bodies are stated by the commands they are the bodies of: no mode check, no result register, no `CMD_DONE` (R320). That step 1
closes the host's window on the object lists is log entry 17's; that the stored entries of `RAWOBJ` and `OBJOUT` stay when their
counts become 0 there is the model's choice (log entry 24: a host read of them is a free value, R52, R53). The record of
the tables as they were is log entry 11's. -/
def Obligations.FrameSequenceSteps : Prop :=
  ∀ (s : State) (byCmd : Bool),
    let go (u : State) (q : FramePos) : Host.Outcome State Fault Refusal := .next { u with seq := .pos (.frame q byCmd) }
    let free (p : Nat) : Prop := (s.chan p).configured = true ∧ (s.chan p).xfer = .idle
    let started (u : State) (p src dst : Nat) : State :=
      u.setChan p (restarted (s.chan p) (BitVec.ofNat 32 src) (BitVec.ofNat 32 dst))
    let body (i : Instr) (u t : State) : Prop := exec i { u with mode := .configured } = .next (done t)
    (s.mode = .configured → s.winOk2D = false → exec .frameProc s = .next (faulted s 0x04 1))
    ∧ (s.mode = .configured → s.winOk2D = true →
      exec .frameProc s = .next { s with frameToken := true, before := tablesOf s, seq := .pos (.frame .s1 true) })
    ∧ (s.seq = .pos (.frame .s1 byCmd) →
      let u : State :=
        { s with
          bmpWord := Vector.replicate 32 0, bmpCursor := 0, numRawObj := 0, numObjOut := 0
          window := { s.window with raw := false, objs := false } }
      ((∀ p, 4 ≤ p → p < 11 → (s.chan p).xfer = .idle) →
        seqStep s = go { u with dma := withChans s 4 11 fun p _ => pipeline s.act p } .s2start)
      ∧ ∀ p, 4 ≤ p → p < 11 → (s.chan p).xfer ≠ .idle → (∀ q, 4 ≤ q → q < p → (s.chan q).xfer = .idle) →
        seqStep s = .next (faulted u 0x21 p))
    ∧ (s.seq = .pos (.frame .s2start byCmd) →
      (s.nr * s.nv = 0 → seqStep s = go s .s3)
      ∧ (0 < s.nr * s.nv → free 4 → seqStep s = go (started s 4 (s.buf 4) (s.buf 6)) (.s2 0)))
    ∧ (s.seq = .pos (.frame .s3 byCmd) →
      ((s.chan 6).xfer.isDone = false → seqStep s = .next { s with seq := .wait 6 (.frame .s3second byCmd) })
      ∧ ((s.chan 6).xfer.isDone = true → (s.chan 7).xfer.isDone = false →
        seqStep s = .next { freed s 6 with seq := .wait 7 (.frame .s4start byCmd) })
      ∧ ((s.chan 6).xfer.isDone = true → (s.chan 7).xfer.isDone = true →
        seqStep s = go (freed (freed s 6) 7) .s4start))
    ∧ (s.seq = .pos (.frame .s3second byCmd) →
      ((s.chan 7).xfer.isDone = false → seqStep s = .next { s with seq := .wait 7 (.frame .s4start byCmd) })
      ∧ ((s.chan 7).xfer.isDone = true → seqStep s = go (freed s 7) .s4start))
    ∧ (s.seq = .pos (.frame .s4start byCmd) →
      let n := ((List.range (32 * max (s.nd / 32) 1)).filter s.bmpBit).length
      (n = 0 → seqStep s = go s .s5)
      ∧ ∀ d, NextBit s d → free 8 →
        seqStep s = go
          { started s 8 (s.buf 5 + 2 * d) (s.buf 10) with
            bmpCursor := BitVec.ofNat 11 (d + 1), frameScr := { s.frameScr with lines := n, dcur := d } } (.s4 0))
    ∧ (∀ j, s.seq = .pos (.frame (.s4 j) byCmd) →
      ((s.chan (8 + j % 2)).xfer.isDone = false →
        seqStep s = .next { s with seq := .wait (8 + j % 2) (.frame (.s4body j) byCmd) })
      ∧ ((s.chan (8 + j % 2)).xfer.isDone = true →
        seqStep s = seqStep { freed s (8 + j % 2) with seq := .pos (.frame (.s4body j) byCmd) }))
    ∧ (∀ j, s.seq = .pos (.frame (.s4body j) byCmd) → ∀ (d : Nat) (u t : State),
      (j + 1 < s.frameScr.lines ∧ NextBit s d ∧ free (8 + (j + 1) % 2)
          ∧ u = { started s (8 + (j + 1) % 2) (s.buf 5 + 2 * d) (s.buf (10 + (j + 1) % 2)) with
            bmpCursor := BitVec.ofNat 11 (d + 1) }
        ∨ s.frameScr.lines ≤ j + 1 ∧ d = s.frameScr.dcur ∧ u = s) →
      body (.cfarRng s.frameScr.dcur)
        { u with
          arg := tabSet s.arg 0 (BitVec.ofNat 32 (s.buf (10 + j % 2))), argPast := Vector.replicate 6 [] } t →
      seqStep s = go
        { t with
          mode := s.mode, arg := s.arg, argPast := s.argPast, res0 := s.res0, res1 := s.res1, irqStatus := s.irqStatus
          frameScr := { s.frameScr with dcur := d } } (if j + 1 < s.frameScr.lines then .s4 (j + 1) else .s5))
    ∧ (s.seq = .pos (.frame .s5 byCmd) → ∀ t, body .pkgrpRun s t →
      seqStep s = go { t with mode := s.mode, res0 := s.res0, irqStatus := s.irqStatus } .s6start)
    ∧ (s.seq = .pos (.frame .s6start byCmd) →
      seqStep s = go { s with frameScr := { s.frameScr with n0 := s.numObjOut.toNat } }
        (if s.numObjOut.toNat = 0 then .s7 else .s6 0))
    ∧ (∀ i,
      let after : FramePos := if i + 1 < s.frameScr.n0 then .s6 (i + 1) else .s7
      (s.seq = .pos (.frame (.s6 i) byCmd) → ∀ t,
        (body (.angleObj i) s t →
          seqStep s = go { t with mode := s.mode, res0 := s.res0, irqStatus := s.irqStatus } after)
        ∧ (exec (.angleObj i) { s with mode := .configured } = .next { t with seq := .wait 10 (.angle i) } →
          seqStep s = .next { t with mode := s.mode, seq := .wait 10 (.frame (.s6body i) byCmd) }))
      ∧ (s.seq = .pos (.frame (.s6body i) byCmd) → ∀ t,
        seqStep { s with seq := .pos (.angle i) } = .next (done t) →
        seqStep s = go { t with res0 := s.res0, irqStatus := s.irqStatus } after))
    ∧ (s.seq = .pos (.frame .s7 byCmd) → ∀ t, body .outAsm s t →
      seqStep s = go { t with mode := s.mode, irqStatus := s.irqStatus ||| (t.irqStatus &&& 0x9) } .s8)
    ∧ (s.seq = .pos (.frame .s8 byCmd) →
      let u : State := { s with frameCount := s.frameCount + 1, frameToken := false }
      seqStep s = .next (if byCmd then done u else { u with seq := .idle }))

/-- Item `idx` of the Doppler pass (R323, R324): the wait for its samples; after it the next item's fetch started, where there
is one, the zero-Doppler bin stored in the heat map, the log-magnitudes added to the range bin's vector, and nothing else. At
the last antenna of a range bin (R325), after a wait for the row sent two bins before: the vector stored in its `SUMLOG` half,
its Doppler detections marked in the bitmap, its row of the detection matrix sent. The closing of the host's window on the heat
map and the matrix is log entry 17's. -/
def Obligations.DopplerPassSteps : Prop :=
  ∀ (s : State) (byCmd : Bool) (idx : Nat), LegalGeometry s.act → idx < s.nr * s.nv →
    let r := idx / s.nv
    let v := idx % s.nv
    let row := 6 + r % 2
    let next := (idx + 1) % 2
    let u : State :=
      if idx + 1 < s.nr * s.nv then
        s.setChan (4 + next) (restarted (s.chan (4 + next))
          (BitVec.ofNat 32 (cubeCell s ((idx + 1) % s.nv) ((idx + 1) / s.nv) 0)) (BitVec.ofNat 32 (s.buf (6 + next))))
      else s
    let src := s.buf (6 + idx % 2)
    let dst := s.buf 13 + 8 * (r * s.nv + v)
    let X := dopplerSpectrum s (c16sAt s src s.nd)
    let start (d : Nat) : Nat := if v = 0 then 0 else listGet s.frameScr.acc d 0
    let after : FramePos := if idx + 1 < s.nr * s.nv then .s2 (idx + 1) else .s3
    let moved (y : State) (q : FramePos) : State := { y with seq := .pos (.frame q byCmd) }
    (s.seq = .pos (.frame (.s2 idx) byCmd) →
      ((s.chan (4 + idx % 2)).xfer.isDone = false →
        seqStep s = .next { s with seq := .wait (4 + idx % 2) (.frame (.s2body idx) byCmd) })
      ∧ ((s.chan (4 + idx % 2)).xfer.isDone = true → seqStep s = seqStep (moved (freed s (4 + idx % 2)) (.s2body idx))))
    ∧ (s.seq = .pos (.frame (.s2body idx) byCmd) →
      (idx + 1 < s.nr * s.nv → (s.chan (4 + next)).configured = true ∧ (s.chan (4 + next)).xfer = .idle) →
      Readable u src (4 * s.nd) 4 → Writable u dst 8 8 →
      ∃ w, Stores u w dst (c32Bytes [listGet X 0 Cx.zero])
        ∧ let y : State :=
            { w with
              frameScr := { s.frameScr with acc := (List.range s.nd).map fun d => start d + logMag (listGet X d Cx.zero) }
              window := without s 13 }
          (v + 1 ≠ s.nv → seqStep s = .next (moved y after))
          ∧ (v + 1 = s.nv → r < 2 → seqStep s = seqStep (moved y (.s2tail idx)))
          ∧ (v + 1 = s.nv → 2 ≤ r → (s.chan row).xfer.isDone = true → seqStep s = seqStep (moved (freed y row) (.s2tail idx)))
          ∧ (v + 1 = s.nv → 2 ≤ r → (s.chan row).xfer.isDone = false →
            seqStep s = .next { y with seq := .wait row (.frame (.s2tail idx) byCmd) }))
    ∧ (s.seq = .pos (.frame (.s2tail idx) byCmd) → (s.chan row).configured = true → (s.chan row).xfer = .idle →
      s.frameScr.acc.length = s.nd → Writable s (s.buf (8 + r % 2)) (2 * s.nd) 2 →
      ∃ w z, Stores s w (s.buf (8 + r % 2)) (u16Bytes s.frameScr.acc) ∧ seqStep s = .next (moved z after)
        ∧ z = { w.setChan row (restarted (s.chan row) (BitVec.ofNat 32 (s.buf (8 + r % 2)))
              (BitVec.ofNat 32 (s.buf 5 + 2 * (r * s.nd)))) with
            bmpWord := z.bmpWord, window := without s 5 }
        ∧ ∀ j, z.bmpBit j = (s.bmpBit j || decide (j ∈ cfar s.act.cfarDop s.frameScr.acc)))

/-- OUT.ASM without a logging buffer (R330, R356): the frame is dropped and counted, no payload is written; it puts
`OBJOUT` alone inside the results window (R330 (a)). The window is the model's own field (log entry 17). -/
def Obligations.DroppedFrameIsCounted : Prop :=
  ∀ s : State, s.mode = .configured → s.logAvail = false →
    exec .outAsm s = .next (done
      { s with
        droppedFrames := s.droppedFrames + 1
        numOutDesc := 0
        window := { s.window with objs := true }
        irqStatus := s.irqStatus ||| 0x8 })

/-- OUT.ASM with one (R330 to R334): the descriptors of the selected payloads in order of their tags, the payload bytes and no
other byte of memory, and `FRAME_DONE`, which opens the host's window on every result (R102, log entry 17); words 5 to 7 of the
statistics are free values. -/
def Obligations.PublishedFrame : Prop :=
  ∀ s : State, s.mode = .configured → s.logAvail = true → LegalConfig s.act s.spaces → s.numObjOut.toNat ≤ 100 →
    (∀ k, k < 18 → MayRead s (s.buf k) (bufferSize s.act k) ∧ MayWrite s (s.buf k) (bufferSize s.act k)) →
    let ds := descriptors s
    let into (k : Nat) (bs : List Byte) (a : Nat) (b : Byte) : Byte :=
      if s.buf k ≤ a ∧ a < s.buf k + bs.length then listGet bs (a - s.buf k) 0 else b
    let put (sel : Bool) (k : Nat) (bs : List Byte) (a : Nat) (b : Byte) : Byte := if sel then into k bs a b else b
    ∃ t, exec .outAsm s = .next (done t)
      ∧ t = { s with
          mem := t.mem
          outDesc := t.outDesc
          numOutDesc := BitVec.ofNat 32 ds.length
          window := ⟨results.map (placed s), true, true⟩
          irqStatus := s.irqStatus ||| 0x1 }
      ∧ (∀ k, k < 6 → tabGet t.outDesc k default = listGet ds k (tabGet s.outDesc k default))
      ∧ ∀ a, byteAt t a
        = into 16 (objPayload s) a
            (put (s.act.monSel.getLsbD 0) 14 (u16Bytes (zeroLine s)) a
              (put (s.act.monSel.getLsbD 1) 15 (noisePayload s) a
                (put (s.act.monSel.getLsbD 4) 17 (statsPayload s) a (byteAt s a))))

/-! ## The host's ports and the interrupt output -/

/-- The register map (R21, R22). A write: a writable register reads back the bits its field table names and no other register
changes; a write of any other offset but those of `CMD` and `IRQ_STATUS` changes nothing, nor does any write in `HALTED` (U2, log
entry 12). What stands at every other aligned offset, the entries of the two lists at and above their counts left open (R52, R53);
at an offset that is not a multiple of 4, 0. A read answers what stands there and changes nothing else, in every mode (R58). While
the block is busy, `RES` and a table read as they are, as they are after the sequencer's next step, or as they were before the
running sequence (R403 (c), R405, U7, log entries 11 and 27). -/
def Obligations.RegisterMap : Prop :=
  ∀ (s : State) (off : Nat) (w : Word),
    act (.regWrite off w) s = .next (s.busWrite off w)
    ∧ (off % 4 ≠ 0 → s.busWrite off w = s ∧ s.readReg off = 0)
    ∧ (off % 4 = 0 → ∀ m, writable off = some m → s.mode ≠ .halted →
      (s.busWrite off w).readReg off = w &&& m ∧ ∀ o, o ≠ off → (s.busWrite off w).readReg o = s.readReg o)
    ∧ (off % 4 = 0 → writable off = none → off ≠ 0x00C → off ≠ 0x030 → s.busWrite off w = s)
    ∧ (s.mode = .halted → s.busWrite off w = s)
    ∧ (off % 4 = 0 → writable off = none → (InRaw off → (off - 0x2000) / 8 < s.numRawObj.toNat) →
      (InObjs off → (off - 0x3000) / 16 < s.numObjOut.toNat) → s.readReg off = readOnly s off)
    ∧ (s.seq.busy = false ∨ 0x3860 ≤ off ∨ off < 0x400 ∧ off ≠ 0x028 ∧ off ≠ 0x02C →
      act (.regRead off) s = .next { s with busData := s.readReg off })
    ∧ (act (.regRead off) s = .next { s with busData := s.readReg off }
      ∨ act (.regRead off) s = .next { s with busData := (beforeSequence s).readReg off }
      ∨ ∃ t, seqStep s = .next t ∧ act (.regRead off) s = .next { s with busData := t.readReg off })

/-- The interrupt registers (R33, R361): a written 1 clears, a written 0 leaves, the output is the or of the enabled pending
bits, and no step but such a write and reset clears a bit. A halted block ignores the write (U2, log entry 12). -/
def Obligations.InterruptBitsAreClearedByTheHost : Prop :=
  (∀ (s : State) (w : Word), act (.regWrite 0x030 w) s
      = .next (if s.mode = .halted then s else { s with irqStatus := s.irqStatus &&& ~~~w }))
    ∧ (∀ s : State, s.irq = true ↔ s.irqStatus &&& s.irqEnable ≠ 0)
    ∧ ∀ s t : State, step s = .next t → s.agenda.head? ≠ some .reset → (∀ w, s.agenda.head? ≠ some (.regWrite 0x030 w)) →
      s.irqStatus &&& ~~~t.irqStatus = 0

/-- The host's memory port (R81, R82): a write stores the bytes, a read of a space it may read answers them, where no transfer
owns them and the results window allows it (R102 as log entry 17 reads it); nothing else changes but the model's own record of
the samples overwritten while a chirp is in progress (R404, log entry 26). Where the port does not reach, the model stops (its
choice, log entry 16); that an access is of any length, at any address, and one step is its choice too (log entry 28). -/
def Obligations.HostMemoryPort : Prop :=
  ∀ (s : State) (addr : Word) (bs : List Byte) (n : Nat),
    (s.spaces.hostAdmits true addr.toNat bs.length = true → MayWrite s addr.toNat bs.length →
      ∃ t, act (.memWrite addr bs) s = .next t ∧ Stores { s with lateSamples := t.lateSamples } t addr.toNat bs
        ∧ ∀ a, a ∈ t.lateSamples ↔ a ∈ s.lateSamples
          ∨ (s.chirpToken = true ∧ tierOf addr.toNat = 3 ∧ addr.toNat ≤ a ∧ a < addr.toNat + bs.length))
    ∧ (s.spaces.hostAdmits false addr.toNat n = true → MayRead s addr.toNat n →
      (∀ k, k < n → InWindow s (addr.toNat + k)) →
      act (.memRead addr n) s = .next { s with memData := (List.range n).map fun k => byteAt s (addr.toNat + k) })
    ∧ (s.spaces.hostAdmits true addr.toNat bs.length = false → act (.memWrite addr bs) s = .fault .hostMemoryPort)
    ∧ (s.spaces.hostAdmits false addr.toNat n = false → act (.memRead addr n) s = .fault .hostMemoryPort)
end

