-- ==== Sys2Proof/Laws/State.lean ====
section
/-! SUPPORT. What each named update leaves of each field of the state: one lemma a field, true by `rfl`, and the fields an
update writes. -/

namespace Sys2Proof.Machine

/-! ## `setChan` -/

@[simp] theorem setChan_mode (s : State) (p : Nat) (c : Chan) : (s.setChan p c).mode = s.mode := rfl
@[simp] theorem setChan_seq (s : State) (p : Nat) (c : Chan) : (s.setChan p c).seq = s.seq := rfl
@[simp] theorem setChan_fault (s : State) (p : Nat) (c : Chan) : (s.setChan p c).fault = s.fault := rfl
@[simp] theorem setChan_chirpToken (s : State) (p : Nat) (c : Chan) : (s.setChan p c).chirpToken = s.chirpToken := rfl
@[simp] theorem setChan_frameToken (s : State) (p : Nat) (c : Chan) : (s.setChan p c).frameToken = s.frameToken := rfl
@[simp] theorem setChan_waitMode (s : State) (p : Nat) (c : Chan) : (s.setChan p c).waitMode = s.waitMode := rfl
@[simp] theorem setChan_irqStatus (s : State) (p : Nat) (c : Chan) : (s.setChan p c).irqStatus = s.irqStatus := rfl
@[simp] theorem setChan_irqEnable (s : State) (p : Nat) (c : Chan) : (s.setChan p c).irqEnable = s.irqEnable := rfl
@[simp] theorem setChan_logAvail (s : State) (p : Nat) (c : Chan) : (s.setChan p c).logAvail = s.logAvail := rfl
@[simp] theorem setChan_arg (s : State) (p : Nat) (c : Chan) : (s.setChan p c).arg = s.arg := rfl
@[simp] theorem setChan_argPast (s : State) (p : Nat) (c : Chan) : (s.setChan p c).argPast = s.argPast := rfl
@[simp] theorem setChan_res0 (s : State) (p : Nat) (c : Chan) : (s.setChan p c).res0 = s.res0 := rfl
@[simp] theorem setChan_res1 (s : State) (p : Nat) (c : Chan) : (s.setChan p c).res1 = s.res1 := rfl
@[simp] theorem setChan_stg (s : State) (p : Nat) (c : Chan) : (s.setChan p c).stg = s.stg := rfl
@[simp] theorem setChan_act (s : State) (p : Nat) (c : Chan) : (s.setChan p c).act = s.act := rfl
@[simp] theorem setChan_numVirtAnt (s : State) (p : Nat) (c : Chan) : (s.setChan p c).numVirtAnt = s.numVirtAnt := rfl
@[simp] theorem setChan_chirpsPerFrame (s : State) (p : Nat) (c : Chan) : (s.setChan p c).chirpsPerFrame = s.chirpsPerFrame := rfl
@[simp] theorem setChan_chirpCount (s : State) (p : Nat) (c : Chan) : (s.setChan p c).chirpCount = s.chirpCount := rfl
@[simp] theorem setChan_txAntCount (s : State) (p : Nat) (c : Chan) : (s.setChan p c).txAntCount = s.txAntCount := rfl
@[simp] theorem setChan_dopBinCount (s : State) (p : Nat) (c : Chan) : (s.setChan p c).dopBinCount = s.dopBinCount := rfl
@[simp] theorem setChan_dcCount (s : State) (p : Nat) (c : Chan) : (s.setChan p c).dcCount = s.dcCount := rfl
@[simp] theorem setChan_frameCount (s : State) (p : Nat) (c : Chan) : (s.setChan p c).frameCount = s.frameCount := rfl
@[simp] theorem setChan_numRawObj (s : State) (p : Nat) (c : Chan) : (s.setChan p c).numRawObj = s.numRawObj := rfl
@[simp] theorem setChan_numObjOut (s : State) (p : Nat) (c : Chan) : (s.setChan p c).numObjOut = s.numObjOut := rfl
@[simp] theorem setChan_droppedFrames (s : State) (p : Nat) (c : Chan) : (s.setChan p c).droppedFrames = s.droppedFrames := rfl
@[simp] theorem setChan_rawTruncCount (s : State) (p : Nat) (c : Chan) : (s.setChan p c).rawTruncCount = s.rawTruncCount := rfl
@[simp] theorem setChan_objTruncCount (s : State) (p : Nat) (c : Chan) : (s.setChan p c).objTruncCount = s.objTruncCount := rfl
@[simp] theorem setChan_numOutDesc (s : State) (p : Nat) (c : Chan) : (s.setChan p c).numOutDesc = s.numOutDesc := rfl
@[simp] theorem setChan_win1d (s : State) (p : Nat) (c : Chan) : (s.setChan p c).win1d = s.win1d := rfl
@[simp] theorem setChan_win1dInfo (s : State) (p : Nat) (c : Chan) : (s.setChan p c).win1dInfo = s.win1dInfo := rfl
@[simp] theorem setChan_win2d (s : State) (p : Nat) (c : Chan) : (s.setChan p c).win2d = s.win2d := rfl
@[simp] theorem setChan_win2dInfo (s : State) (p : Nat) (c : Chan) : (s.setChan p c).win2dInfo = s.win2dInfo := rfl
@[simp] theorem setChan_bmpWord (s : State) (p : Nat) (c : Chan) : (s.setChan p c).bmpWord = s.bmpWord := rfl
@[simp] theorem setChan_bmpCursor (s : State) (p : Nat) (c : Chan) : (s.setChan p c).bmpCursor = s.bmpCursor := rfl
@[simp] theorem setChan_dcSum (s : State) (p : Nat) (c : Chan) : (s.setChan p c).dcSum = s.dcSum := rfl
@[simp] theorem setChan_rawObj (s : State) (p : Nat) (c : Chan) : (s.setChan p c).rawObj = s.rawObj := rfl
@[simp] theorem setChan_objOut (s : State) (p : Nat) (c : Chan) : (s.setChan p c).objOut = s.objOut := rfl
@[simp] theorem setChan_outDesc (s : State) (p : Nat) (c : Chan) : (s.setChan p c).outDesc = s.outDesc := rfl
@[simp] theorem setChan_chirpScr (s : State) (p : Nat) (c : Chan) : (s.setChan p c).chirpScr = s.chirpScr := rfl
@[simp] theorem setChan_frameScr (s : State) (p : Nat) (c : Chan) : (s.setChan p c).frameScr = s.frameScr := rfl
@[simp] theorem setChan_mem (s : State) (p : Nat) (c : Chan) : (s.setChan p c).mem = s.mem := rfl
@[simp] theorem setChan_spaces (s : State) (p : Nat) (c : Chan) : (s.setChan p c).spaces = s.spaces := rfl
@[simp] theorem setChan_raced (s : State) (p : Nat) (c : Chan) : (s.setChan p c).raced = s.raced := rfl
@[simp] theorem setChan_lateSamples (s : State) (p : Nat) (c : Chan) : (s.setChan p c).lateSamples = s.lateSamples := rfl
@[simp] theorem setChan_before (s : State) (p : Nat) (c : Chan) : (s.setChan p c).before = s.before := rfl
@[simp] theorem setChan_window (s : State) (p : Nat) (c : Chan) : (s.setChan p c).window = s.window := rfl
@[simp] theorem setChan_agenda (s : State) (p : Nat) (c : Chan) : (s.setChan p c).agenda = s.agenda := rfl
@[simp] theorem setChan_tick (s : State) (p : Nat) (c : Chan) : (s.setChan p c).tick = s.tick := rfl
@[simp] theorem setChan_busData (s : State) (p : Nat) (c : Chan) : (s.setChan p c).busData = s.busData := rfl
@[simp] theorem setChan_memData (s : State) (p : Nat) (c : Chan) : (s.setChan p c).memData = s.memData := rfl

/-! ## `raiseIrq` -/

@[simp] theorem raiseIrq_mode (s : State) (b : Nat) : (s.raiseIrq b).mode = s.mode := rfl
@[simp] theorem raiseIrq_seq (s : State) (b : Nat) : (s.raiseIrq b).seq = s.seq := rfl
@[simp] theorem raiseIrq_fault (s : State) (b : Nat) : (s.raiseIrq b).fault = s.fault := rfl
@[simp] theorem raiseIrq_chirpToken (s : State) (b : Nat) : (s.raiseIrq b).chirpToken = s.chirpToken := rfl
@[simp] theorem raiseIrq_frameToken (s : State) (b : Nat) : (s.raiseIrq b).frameToken = s.frameToken := rfl
@[simp] theorem raiseIrq_waitMode (s : State) (b : Nat) : (s.raiseIrq b).waitMode = s.waitMode := rfl
@[simp] theorem raiseIrq_irqEnable (s : State) (b : Nat) : (s.raiseIrq b).irqEnable = s.irqEnable := rfl
@[simp] theorem raiseIrq_logAvail (s : State) (b : Nat) : (s.raiseIrq b).logAvail = s.logAvail := rfl
@[simp] theorem raiseIrq_arg (s : State) (b : Nat) : (s.raiseIrq b).arg = s.arg := rfl
@[simp] theorem raiseIrq_argPast (s : State) (b : Nat) : (s.raiseIrq b).argPast = s.argPast := rfl
@[simp] theorem raiseIrq_res0 (s : State) (b : Nat) : (s.raiseIrq b).res0 = s.res0 := rfl
@[simp] theorem raiseIrq_res1 (s : State) (b : Nat) : (s.raiseIrq b).res1 = s.res1 := rfl
@[simp] theorem raiseIrq_stg (s : State) (b : Nat) : (s.raiseIrq b).stg = s.stg := rfl
@[simp] theorem raiseIrq_act (s : State) (b : Nat) : (s.raiseIrq b).act = s.act := rfl
@[simp] theorem raiseIrq_numVirtAnt (s : State) (b : Nat) : (s.raiseIrq b).numVirtAnt = s.numVirtAnt := rfl
@[simp] theorem raiseIrq_chirpsPerFrame (s : State) (b : Nat) : (s.raiseIrq b).chirpsPerFrame = s.chirpsPerFrame := rfl
@[simp] theorem raiseIrq_chirpCount (s : State) (b : Nat) : (s.raiseIrq b).chirpCount = s.chirpCount := rfl
@[simp] theorem raiseIrq_txAntCount (s : State) (b : Nat) : (s.raiseIrq b).txAntCount = s.txAntCount := rfl
@[simp] theorem raiseIrq_dopBinCount (s : State) (b : Nat) : (s.raiseIrq b).dopBinCount = s.dopBinCount := rfl
@[simp] theorem raiseIrq_dcCount (s : State) (b : Nat) : (s.raiseIrq b).dcCount = s.dcCount := rfl
@[simp] theorem raiseIrq_frameCount (s : State) (b : Nat) : (s.raiseIrq b).frameCount = s.frameCount := rfl
@[simp] theorem raiseIrq_numRawObj (s : State) (b : Nat) : (s.raiseIrq b).numRawObj = s.numRawObj := rfl
@[simp] theorem raiseIrq_numObjOut (s : State) (b : Nat) : (s.raiseIrq b).numObjOut = s.numObjOut := rfl
@[simp] theorem raiseIrq_droppedFrames (s : State) (b : Nat) : (s.raiseIrq b).droppedFrames = s.droppedFrames := rfl
@[simp] theorem raiseIrq_rawTruncCount (s : State) (b : Nat) : (s.raiseIrq b).rawTruncCount = s.rawTruncCount := rfl
@[simp] theorem raiseIrq_objTruncCount (s : State) (b : Nat) : (s.raiseIrq b).objTruncCount = s.objTruncCount := rfl
@[simp] theorem raiseIrq_numOutDesc (s : State) (b : Nat) : (s.raiseIrq b).numOutDesc = s.numOutDesc := rfl
@[simp] theorem raiseIrq_win1d (s : State) (b : Nat) : (s.raiseIrq b).win1d = s.win1d := rfl
@[simp] theorem raiseIrq_win1dInfo (s : State) (b : Nat) : (s.raiseIrq b).win1dInfo = s.win1dInfo := rfl
@[simp] theorem raiseIrq_win2d (s : State) (b : Nat) : (s.raiseIrq b).win2d = s.win2d := rfl
@[simp] theorem raiseIrq_win2dInfo (s : State) (b : Nat) : (s.raiseIrq b).win2dInfo = s.win2dInfo := rfl
@[simp] theorem raiseIrq_bmpWord (s : State) (b : Nat) : (s.raiseIrq b).bmpWord = s.bmpWord := rfl
@[simp] theorem raiseIrq_bmpCursor (s : State) (b : Nat) : (s.raiseIrq b).bmpCursor = s.bmpCursor := rfl
@[simp] theorem raiseIrq_dcSum (s : State) (b : Nat) : (s.raiseIrq b).dcSum = s.dcSum := rfl
@[simp] theorem raiseIrq_rawObj (s : State) (b : Nat) : (s.raiseIrq b).rawObj = s.rawObj := rfl
@[simp] theorem raiseIrq_objOut (s : State) (b : Nat) : (s.raiseIrq b).objOut = s.objOut := rfl
@[simp] theorem raiseIrq_outDesc (s : State) (b : Nat) : (s.raiseIrq b).outDesc = s.outDesc := rfl
@[simp] theorem raiseIrq_dma (s : State) (b : Nat) : (s.raiseIrq b).dma = s.dma := rfl
@[simp] theorem raiseIrq_chirpScr (s : State) (b : Nat) : (s.raiseIrq b).chirpScr = s.chirpScr := rfl
@[simp] theorem raiseIrq_frameScr (s : State) (b : Nat) : (s.raiseIrq b).frameScr = s.frameScr := rfl
@[simp] theorem raiseIrq_mem (s : State) (b : Nat) : (s.raiseIrq b).mem = s.mem := rfl
@[simp] theorem raiseIrq_spaces (s : State) (b : Nat) : (s.raiseIrq b).spaces = s.spaces := rfl
@[simp] theorem raiseIrq_raced (s : State) (b : Nat) : (s.raiseIrq b).raced = s.raced := rfl
@[simp] theorem raiseIrq_lateSamples (s : State) (b : Nat) : (s.raiseIrq b).lateSamples = s.lateSamples := rfl
@[simp] theorem raiseIrq_before (s : State) (b : Nat) : (s.raiseIrq b).before = s.before := rfl
@[simp] theorem raiseIrq_window (s : State) (b : Nat) : (s.raiseIrq b).window = s.window := rfl
@[simp] theorem raiseIrq_agenda (s : State) (b : Nat) : (s.raiseIrq b).agenda = s.agenda := rfl
@[simp] theorem raiseIrq_tick (s : State) (b : Nat) : (s.raiseIrq b).tick = s.tick := rfl
@[simp] theorem raiseIrq_busData (s : State) (b : Nat) : (s.raiseIrq b).busData = s.busData := rfl
@[simp] theorem raiseIrq_memData (s : State) (b : Nat) : (s.raiseIrq b).memData = s.memData := rfl

/-! ## `complete` -/

@[simp] theorem complete_mode (s : State) : (s.complete).mode = s.mode := rfl
@[simp] theorem complete_fault (s : State) : (s.complete).fault = s.fault := rfl
@[simp] theorem complete_chirpToken (s : State) : (s.complete).chirpToken = s.chirpToken := rfl
@[simp] theorem complete_frameToken (s : State) : (s.complete).frameToken = s.frameToken := rfl
@[simp] theorem complete_waitMode (s : State) : (s.complete).waitMode = s.waitMode := rfl
@[simp] theorem complete_irqEnable (s : State) : (s.complete).irqEnable = s.irqEnable := rfl
@[simp] theorem complete_logAvail (s : State) : (s.complete).logAvail = s.logAvail := rfl
@[simp] theorem complete_arg (s : State) : (s.complete).arg = s.arg := rfl
@[simp] theorem complete_argPast (s : State) : (s.complete).argPast = s.argPast := rfl
@[simp] theorem complete_res0 (s : State) : (s.complete).res0 = s.res0 := rfl
@[simp] theorem complete_res1 (s : State) : (s.complete).res1 = s.res1 := rfl
@[simp] theorem complete_stg (s : State) : (s.complete).stg = s.stg := rfl
@[simp] theorem complete_act (s : State) : (s.complete).act = s.act := rfl
@[simp] theorem complete_numVirtAnt (s : State) : (s.complete).numVirtAnt = s.numVirtAnt := rfl
@[simp] theorem complete_chirpsPerFrame (s : State) : (s.complete).chirpsPerFrame = s.chirpsPerFrame := rfl
@[simp] theorem complete_chirpCount (s : State) : (s.complete).chirpCount = s.chirpCount := rfl
@[simp] theorem complete_txAntCount (s : State) : (s.complete).txAntCount = s.txAntCount := rfl
@[simp] theorem complete_dopBinCount (s : State) : (s.complete).dopBinCount = s.dopBinCount := rfl
@[simp] theorem complete_dcCount (s : State) : (s.complete).dcCount = s.dcCount := rfl
@[simp] theorem complete_frameCount (s : State) : (s.complete).frameCount = s.frameCount := rfl
@[simp] theorem complete_numRawObj (s : State) : (s.complete).numRawObj = s.numRawObj := rfl
@[simp] theorem complete_numObjOut (s : State) : (s.complete).numObjOut = s.numObjOut := rfl
@[simp] theorem complete_droppedFrames (s : State) : (s.complete).droppedFrames = s.droppedFrames := rfl
@[simp] theorem complete_rawTruncCount (s : State) : (s.complete).rawTruncCount = s.rawTruncCount := rfl
@[simp] theorem complete_objTruncCount (s : State) : (s.complete).objTruncCount = s.objTruncCount := rfl
@[simp] theorem complete_numOutDesc (s : State) : (s.complete).numOutDesc = s.numOutDesc := rfl
@[simp] theorem complete_win1d (s : State) : (s.complete).win1d = s.win1d := rfl
@[simp] theorem complete_win1dInfo (s : State) : (s.complete).win1dInfo = s.win1dInfo := rfl
@[simp] theorem complete_win2d (s : State) : (s.complete).win2d = s.win2d := rfl
@[simp] theorem complete_win2dInfo (s : State) : (s.complete).win2dInfo = s.win2dInfo := rfl
@[simp] theorem complete_bmpWord (s : State) : (s.complete).bmpWord = s.bmpWord := rfl
@[simp] theorem complete_bmpCursor (s : State) : (s.complete).bmpCursor = s.bmpCursor := rfl
@[simp] theorem complete_dcSum (s : State) : (s.complete).dcSum = s.dcSum := rfl
@[simp] theorem complete_rawObj (s : State) : (s.complete).rawObj = s.rawObj := rfl
@[simp] theorem complete_objOut (s : State) : (s.complete).objOut = s.objOut := rfl
@[simp] theorem complete_outDesc (s : State) : (s.complete).outDesc = s.outDesc := rfl
@[simp] theorem complete_dma (s : State) : (s.complete).dma = s.dma := rfl
@[simp] theorem complete_chirpScr (s : State) : (s.complete).chirpScr = s.chirpScr := rfl
@[simp] theorem complete_frameScr (s : State) : (s.complete).frameScr = s.frameScr := rfl
@[simp] theorem complete_mem (s : State) : (s.complete).mem = s.mem := rfl
@[simp] theorem complete_spaces (s : State) : (s.complete).spaces = s.spaces := rfl
@[simp] theorem complete_raced (s : State) : (s.complete).raced = s.raced := rfl
@[simp] theorem complete_lateSamples (s : State) : (s.complete).lateSamples = s.lateSamples := rfl
@[simp] theorem complete_before (s : State) : (s.complete).before = s.before := rfl
@[simp] theorem complete_window (s : State) : (s.complete).window = s.window := rfl
@[simp] theorem complete_agenda (s : State) : (s.complete).agenda = s.agenda := rfl
@[simp] theorem complete_tick (s : State) : (s.complete).tick = s.tick := rfl
@[simp] theorem complete_busData (s : State) : (s.complete).busData = s.busData := rfl
@[simp] theorem complete_memData (s : State) : (s.complete).memData = s.memData := rfl

/-! ## `fatal` -/

@[simp] theorem fatal_chirpToken (s : State) (f : Fatal) : (s.fatal f).chirpToken = s.chirpToken := rfl
@[simp] theorem fatal_frameToken (s : State) (f : Fatal) : (s.fatal f).frameToken = s.frameToken := rfl
@[simp] theorem fatal_waitMode (s : State) (f : Fatal) : (s.fatal f).waitMode = s.waitMode := rfl
@[simp] theorem fatal_irqEnable (s : State) (f : Fatal) : (s.fatal f).irqEnable = s.irqEnable := rfl
@[simp] theorem fatal_logAvail (s : State) (f : Fatal) : (s.fatal f).logAvail = s.logAvail := rfl
@[simp] theorem fatal_arg (s : State) (f : Fatal) : (s.fatal f).arg = s.arg := rfl
@[simp] theorem fatal_argPast (s : State) (f : Fatal) : (s.fatal f).argPast = s.argPast := rfl
@[simp] theorem fatal_res0 (s : State) (f : Fatal) : (s.fatal f).res0 = s.res0 := rfl
@[simp] theorem fatal_res1 (s : State) (f : Fatal) : (s.fatal f).res1 = s.res1 := rfl
@[simp] theorem fatal_stg (s : State) (f : Fatal) : (s.fatal f).stg = s.stg := rfl
@[simp] theorem fatal_act (s : State) (f : Fatal) : (s.fatal f).act = s.act := rfl
@[simp] theorem fatal_numVirtAnt (s : State) (f : Fatal) : (s.fatal f).numVirtAnt = s.numVirtAnt := rfl
@[simp] theorem fatal_chirpsPerFrame (s : State) (f : Fatal) : (s.fatal f).chirpsPerFrame = s.chirpsPerFrame := rfl
@[simp] theorem fatal_chirpCount (s : State) (f : Fatal) : (s.fatal f).chirpCount = s.chirpCount := rfl
@[simp] theorem fatal_txAntCount (s : State) (f : Fatal) : (s.fatal f).txAntCount = s.txAntCount := rfl
@[simp] theorem fatal_dopBinCount (s : State) (f : Fatal) : (s.fatal f).dopBinCount = s.dopBinCount := rfl
@[simp] theorem fatal_dcCount (s : State) (f : Fatal) : (s.fatal f).dcCount = s.dcCount := rfl
@[simp] theorem fatal_frameCount (s : State) (f : Fatal) : (s.fatal f).frameCount = s.frameCount := rfl
@[simp] theorem fatal_numRawObj (s : State) (f : Fatal) : (s.fatal f).numRawObj = s.numRawObj := rfl
@[simp] theorem fatal_numObjOut (s : State) (f : Fatal) : (s.fatal f).numObjOut = s.numObjOut := rfl
@[simp] theorem fatal_droppedFrames (s : State) (f : Fatal) : (s.fatal f).droppedFrames = s.droppedFrames := rfl
@[simp] theorem fatal_rawTruncCount (s : State) (f : Fatal) : (s.fatal f).rawTruncCount = s.rawTruncCount := rfl
@[simp] theorem fatal_objTruncCount (s : State) (f : Fatal) : (s.fatal f).objTruncCount = s.objTruncCount := rfl
@[simp] theorem fatal_numOutDesc (s : State) (f : Fatal) : (s.fatal f).numOutDesc = s.numOutDesc := rfl
@[simp] theorem fatal_win1d (s : State) (f : Fatal) : (s.fatal f).win1d = s.win1d := rfl
@[simp] theorem fatal_win1dInfo (s : State) (f : Fatal) : (s.fatal f).win1dInfo = s.win1dInfo := rfl
@[simp] theorem fatal_win2d (s : State) (f : Fatal) : (s.fatal f).win2d = s.win2d := rfl
@[simp] theorem fatal_win2dInfo (s : State) (f : Fatal) : (s.fatal f).win2dInfo = s.win2dInfo := rfl
@[simp] theorem fatal_bmpWord (s : State) (f : Fatal) : (s.fatal f).bmpWord = s.bmpWord := rfl
@[simp] theorem fatal_bmpCursor (s : State) (f : Fatal) : (s.fatal f).bmpCursor = s.bmpCursor := rfl
@[simp] theorem fatal_dcSum (s : State) (f : Fatal) : (s.fatal f).dcSum = s.dcSum := rfl
@[simp] theorem fatal_rawObj (s : State) (f : Fatal) : (s.fatal f).rawObj = s.rawObj := rfl
@[simp] theorem fatal_objOut (s : State) (f : Fatal) : (s.fatal f).objOut = s.objOut := rfl
@[simp] theorem fatal_outDesc (s : State) (f : Fatal) : (s.fatal f).outDesc = s.outDesc := rfl
@[simp] theorem fatal_dma (s : State) (f : Fatal) : (s.fatal f).dma = s.dma := rfl
@[simp] theorem fatal_chirpScr (s : State) (f : Fatal) : (s.fatal f).chirpScr = s.chirpScr := rfl
@[simp] theorem fatal_frameScr (s : State) (f : Fatal) : (s.fatal f).frameScr = s.frameScr := rfl
@[simp] theorem fatal_mem (s : State) (f : Fatal) : (s.fatal f).mem = s.mem := rfl
@[simp] theorem fatal_spaces (s : State) (f : Fatal) : (s.fatal f).spaces = s.spaces := rfl
@[simp] theorem fatal_raced (s : State) (f : Fatal) : (s.fatal f).raced = s.raced := rfl
@[simp] theorem fatal_lateSamples (s : State) (f : Fatal) : (s.fatal f).lateSamples = s.lateSamples := rfl
@[simp] theorem fatal_before (s : State) (f : Fatal) : (s.fatal f).before = s.before := rfl
@[simp] theorem fatal_window (s : State) (f : Fatal) : (s.fatal f).window = s.window := rfl
@[simp] theorem fatal_agenda (s : State) (f : Fatal) : (s.fatal f).agenda = s.agenda := rfl
@[simp] theorem fatal_tick (s : State) (f : Fatal) : (s.fatal f).tick = s.tick := rfl
@[simp] theorem fatal_busData (s : State) (f : Fatal) : (s.fatal f).busData = s.busData := rfl
@[simp] theorem fatal_memData (s : State) (f : Fatal) : (s.fatal f).memData = s.memData := rfl

/-! ## `bmpMark` -/

@[simp] theorem bmpMark_mode (s : State) (i : Nat) : (s.bmpMark i).mode = s.mode := rfl
@[simp] theorem bmpMark_seq (s : State) (i : Nat) : (s.bmpMark i).seq = s.seq := rfl
@[simp] theorem bmpMark_fault (s : State) (i : Nat) : (s.bmpMark i).fault = s.fault := rfl
@[simp] theorem bmpMark_chirpToken (s : State) (i : Nat) : (s.bmpMark i).chirpToken = s.chirpToken := rfl
@[simp] theorem bmpMark_frameToken (s : State) (i : Nat) : (s.bmpMark i).frameToken = s.frameToken := rfl
@[simp] theorem bmpMark_waitMode (s : State) (i : Nat) : (s.bmpMark i).waitMode = s.waitMode := rfl
@[simp] theorem bmpMark_irqStatus (s : State) (i : Nat) : (s.bmpMark i).irqStatus = s.irqStatus := rfl
@[simp] theorem bmpMark_irqEnable (s : State) (i : Nat) : (s.bmpMark i).irqEnable = s.irqEnable := rfl
@[simp] theorem bmpMark_logAvail (s : State) (i : Nat) : (s.bmpMark i).logAvail = s.logAvail := rfl
@[simp] theorem bmpMark_arg (s : State) (i : Nat) : (s.bmpMark i).arg = s.arg := rfl
@[simp] theorem bmpMark_argPast (s : State) (i : Nat) : (s.bmpMark i).argPast = s.argPast := rfl
@[simp] theorem bmpMark_res0 (s : State) (i : Nat) : (s.bmpMark i).res0 = s.res0 := rfl
@[simp] theorem bmpMark_res1 (s : State) (i : Nat) : (s.bmpMark i).res1 = s.res1 := rfl
@[simp] theorem bmpMark_stg (s : State) (i : Nat) : (s.bmpMark i).stg = s.stg := rfl
@[simp] theorem bmpMark_act (s : State) (i : Nat) : (s.bmpMark i).act = s.act := rfl
@[simp] theorem bmpMark_numVirtAnt (s : State) (i : Nat) : (s.bmpMark i).numVirtAnt = s.numVirtAnt := rfl
@[simp] theorem bmpMark_chirpsPerFrame (s : State) (i : Nat) : (s.bmpMark i).chirpsPerFrame = s.chirpsPerFrame := rfl
@[simp] theorem bmpMark_chirpCount (s : State) (i : Nat) : (s.bmpMark i).chirpCount = s.chirpCount := rfl
@[simp] theorem bmpMark_txAntCount (s : State) (i : Nat) : (s.bmpMark i).txAntCount = s.txAntCount := rfl
@[simp] theorem bmpMark_dopBinCount (s : State) (i : Nat) : (s.bmpMark i).dopBinCount = s.dopBinCount := rfl
@[simp] theorem bmpMark_dcCount (s : State) (i : Nat) : (s.bmpMark i).dcCount = s.dcCount := rfl
@[simp] theorem bmpMark_frameCount (s : State) (i : Nat) : (s.bmpMark i).frameCount = s.frameCount := rfl
@[simp] theorem bmpMark_numRawObj (s : State) (i : Nat) : (s.bmpMark i).numRawObj = s.numRawObj := rfl
@[simp] theorem bmpMark_numObjOut (s : State) (i : Nat) : (s.bmpMark i).numObjOut = s.numObjOut := rfl
@[simp] theorem bmpMark_droppedFrames (s : State) (i : Nat) : (s.bmpMark i).droppedFrames = s.droppedFrames := rfl
@[simp] theorem bmpMark_rawTruncCount (s : State) (i : Nat) : (s.bmpMark i).rawTruncCount = s.rawTruncCount := rfl
@[simp] theorem bmpMark_objTruncCount (s : State) (i : Nat) : (s.bmpMark i).objTruncCount = s.objTruncCount := rfl
@[simp] theorem bmpMark_numOutDesc (s : State) (i : Nat) : (s.bmpMark i).numOutDesc = s.numOutDesc := rfl
@[simp] theorem bmpMark_win1d (s : State) (i : Nat) : (s.bmpMark i).win1d = s.win1d := rfl
@[simp] theorem bmpMark_win1dInfo (s : State) (i : Nat) : (s.bmpMark i).win1dInfo = s.win1dInfo := rfl
@[simp] theorem bmpMark_win2d (s : State) (i : Nat) : (s.bmpMark i).win2d = s.win2d := rfl
@[simp] theorem bmpMark_win2dInfo (s : State) (i : Nat) : (s.bmpMark i).win2dInfo = s.win2dInfo := rfl
@[simp] theorem bmpMark_bmpCursor (s : State) (i : Nat) : (s.bmpMark i).bmpCursor = s.bmpCursor := rfl
@[simp] theorem bmpMark_dcSum (s : State) (i : Nat) : (s.bmpMark i).dcSum = s.dcSum := rfl
@[simp] theorem bmpMark_rawObj (s : State) (i : Nat) : (s.bmpMark i).rawObj = s.rawObj := rfl
@[simp] theorem bmpMark_objOut (s : State) (i : Nat) : (s.bmpMark i).objOut = s.objOut := rfl
@[simp] theorem bmpMark_outDesc (s : State) (i : Nat) : (s.bmpMark i).outDesc = s.outDesc := rfl
@[simp] theorem bmpMark_dma (s : State) (i : Nat) : (s.bmpMark i).dma = s.dma := rfl
@[simp] theorem bmpMark_chirpScr (s : State) (i : Nat) : (s.bmpMark i).chirpScr = s.chirpScr := rfl
@[simp] theorem bmpMark_frameScr (s : State) (i : Nat) : (s.bmpMark i).frameScr = s.frameScr := rfl
@[simp] theorem bmpMark_mem (s : State) (i : Nat) : (s.bmpMark i).mem = s.mem := rfl
@[simp] theorem bmpMark_spaces (s : State) (i : Nat) : (s.bmpMark i).spaces = s.spaces := rfl
@[simp] theorem bmpMark_raced (s : State) (i : Nat) : (s.bmpMark i).raced = s.raced := rfl
@[simp] theorem bmpMark_lateSamples (s : State) (i : Nat) : (s.bmpMark i).lateSamples = s.lateSamples := rfl
@[simp] theorem bmpMark_before (s : State) (i : Nat) : (s.bmpMark i).before = s.before := rfl
@[simp] theorem bmpMark_window (s : State) (i : Nat) : (s.bmpMark i).window = s.window := rfl
@[simp] theorem bmpMark_agenda (s : State) (i : Nat) : (s.bmpMark i).agenda = s.agenda := rfl
@[simp] theorem bmpMark_tick (s : State) (i : Nat) : (s.bmpMark i).tick = s.tick := rfl
@[simp] theorem bmpMark_busData (s : State) (i : Nat) : (s.bmpMark i).busData = s.busData := rfl
@[simp] theorem bmpMark_memData (s : State) (i : Nat) : (s.bmpMark i).memData = s.memData := rfl

/-! ## `wrByte` -/

@[simp] theorem wrByte_mode (s : State) (who : Agent) (a : Nat) (b : Byte) : (s.wrByte who a b).mode = s.mode := rfl
@[simp] theorem wrByte_seq (s : State) (who : Agent) (a : Nat) (b : Byte) : (s.wrByte who a b).seq = s.seq := rfl
@[simp] theorem wrByte_fault (s : State) (who : Agent) (a : Nat) (b : Byte) : (s.wrByte who a b).fault = s.fault := rfl
@[simp] theorem wrByte_chirpToken (s : State) (who : Agent) (a : Nat) (b : Byte) : (s.wrByte who a b).chirpToken = s.chirpToken := rfl
@[simp] theorem wrByte_frameToken (s : State) (who : Agent) (a : Nat) (b : Byte) : (s.wrByte who a b).frameToken = s.frameToken := rfl
@[simp] theorem wrByte_waitMode (s : State) (who : Agent) (a : Nat) (b : Byte) : (s.wrByte who a b).waitMode = s.waitMode := rfl
@[simp] theorem wrByte_irqStatus (s : State) (who : Agent) (a : Nat) (b : Byte) : (s.wrByte who a b).irqStatus = s.irqStatus := rfl
@[simp] theorem wrByte_irqEnable (s : State) (who : Agent) (a : Nat) (b : Byte) : (s.wrByte who a b).irqEnable = s.irqEnable := rfl
@[simp] theorem wrByte_logAvail (s : State) (who : Agent) (a : Nat) (b : Byte) : (s.wrByte who a b).logAvail = s.logAvail := rfl
@[simp] theorem wrByte_arg (s : State) (who : Agent) (a : Nat) (b : Byte) : (s.wrByte who a b).arg = s.arg := rfl
@[simp] theorem wrByte_argPast (s : State) (who : Agent) (a : Nat) (b : Byte) : (s.wrByte who a b).argPast = s.argPast := rfl
@[simp] theorem wrByte_res0 (s : State) (who : Agent) (a : Nat) (b : Byte) : (s.wrByte who a b).res0 = s.res0 := rfl
@[simp] theorem wrByte_res1 (s : State) (who : Agent) (a : Nat) (b : Byte) : (s.wrByte who a b).res1 = s.res1 := rfl
@[simp] theorem wrByte_stg (s : State) (who : Agent) (a : Nat) (b : Byte) : (s.wrByte who a b).stg = s.stg := rfl
@[simp] theorem wrByte_act (s : State) (who : Agent) (a : Nat) (b : Byte) : (s.wrByte who a b).act = s.act := rfl
@[simp] theorem wrByte_numVirtAnt (s : State) (who : Agent) (a : Nat) (b : Byte) : (s.wrByte who a b).numVirtAnt = s.numVirtAnt := rfl
@[simp] theorem wrByte_chirpsPerFrame (s : State) (who : Agent) (a : Nat) (b : Byte) : (s.wrByte who a b).chirpsPerFrame = s.chirpsPerFrame := rfl
@[simp] theorem wrByte_chirpCount (s : State) (who : Agent) (a : Nat) (b : Byte) : (s.wrByte who a b).chirpCount = s.chirpCount := rfl
@[simp] theorem wrByte_txAntCount (s : State) (who : Agent) (a : Nat) (b : Byte) : (s.wrByte who a b).txAntCount = s.txAntCount := rfl
@[simp] theorem wrByte_dopBinCount (s : State) (who : Agent) (a : Nat) (b : Byte) : (s.wrByte who a b).dopBinCount = s.dopBinCount := rfl
@[simp] theorem wrByte_dcCount (s : State) (who : Agent) (a : Nat) (b : Byte) : (s.wrByte who a b).dcCount = s.dcCount := rfl
@[simp] theorem wrByte_frameCount (s : State) (who : Agent) (a : Nat) (b : Byte) : (s.wrByte who a b).frameCount = s.frameCount := rfl
@[simp] theorem wrByte_numRawObj (s : State) (who : Agent) (a : Nat) (b : Byte) : (s.wrByte who a b).numRawObj = s.numRawObj := rfl
@[simp] theorem wrByte_numObjOut (s : State) (who : Agent) (a : Nat) (b : Byte) : (s.wrByte who a b).numObjOut = s.numObjOut := rfl
@[simp] theorem wrByte_droppedFrames (s : State) (who : Agent) (a : Nat) (b : Byte) : (s.wrByte who a b).droppedFrames = s.droppedFrames := rfl
@[simp] theorem wrByte_rawTruncCount (s : State) (who : Agent) (a : Nat) (b : Byte) : (s.wrByte who a b).rawTruncCount = s.rawTruncCount := rfl
@[simp] theorem wrByte_objTruncCount (s : State) (who : Agent) (a : Nat) (b : Byte) : (s.wrByte who a b).objTruncCount = s.objTruncCount := rfl
@[simp] theorem wrByte_numOutDesc (s : State) (who : Agent) (a : Nat) (b : Byte) : (s.wrByte who a b).numOutDesc = s.numOutDesc := rfl
@[simp] theorem wrByte_win1d (s : State) (who : Agent) (a : Nat) (b : Byte) : (s.wrByte who a b).win1d = s.win1d := rfl
@[simp] theorem wrByte_win1dInfo (s : State) (who : Agent) (a : Nat) (b : Byte) : (s.wrByte who a b).win1dInfo = s.win1dInfo := rfl
@[simp] theorem wrByte_win2d (s : State) (who : Agent) (a : Nat) (b : Byte) : (s.wrByte who a b).win2d = s.win2d := rfl
@[simp] theorem wrByte_win2dInfo (s : State) (who : Agent) (a : Nat) (b : Byte) : (s.wrByte who a b).win2dInfo = s.win2dInfo := rfl
@[simp] theorem wrByte_bmpWord (s : State) (who : Agent) (a : Nat) (b : Byte) : (s.wrByte who a b).bmpWord = s.bmpWord := rfl
@[simp] theorem wrByte_bmpCursor (s : State) (who : Agent) (a : Nat) (b : Byte) : (s.wrByte who a b).bmpCursor = s.bmpCursor := rfl
@[simp] theorem wrByte_dcSum (s : State) (who : Agent) (a : Nat) (b : Byte) : (s.wrByte who a b).dcSum = s.dcSum := rfl
@[simp] theorem wrByte_rawObj (s : State) (who : Agent) (a : Nat) (b : Byte) : (s.wrByte who a b).rawObj = s.rawObj := rfl
@[simp] theorem wrByte_objOut (s : State) (who : Agent) (a : Nat) (b : Byte) : (s.wrByte who a b).objOut = s.objOut := rfl
@[simp] theorem wrByte_outDesc (s : State) (who : Agent) (a : Nat) (b : Byte) : (s.wrByte who a b).outDesc = s.outDesc := rfl
@[simp] theorem wrByte_dma (s : State) (who : Agent) (a : Nat) (b : Byte) : (s.wrByte who a b).dma = s.dma := rfl
@[simp] theorem wrByte_chirpScr (s : State) (who : Agent) (a : Nat) (b : Byte) : (s.wrByte who a b).chirpScr = s.chirpScr := rfl
@[simp] theorem wrByte_frameScr (s : State) (who : Agent) (a : Nat) (b : Byte) : (s.wrByte who a b).frameScr = s.frameScr := rfl
@[simp] theorem wrByte_spaces (s : State) (who : Agent) (a : Nat) (b : Byte) : (s.wrByte who a b).spaces = s.spaces := rfl
@[simp] theorem wrByte_before (s : State) (who : Agent) (a : Nat) (b : Byte) : (s.wrByte who a b).before = s.before := rfl
@[simp] theorem wrByte_window (s : State) (who : Agent) (a : Nat) (b : Byte) : (s.wrByte who a b).window = s.window := rfl
@[simp] theorem wrByte_agenda (s : State) (who : Agent) (a : Nat) (b : Byte) : (s.wrByte who a b).agenda = s.agenda := rfl
@[simp] theorem wrByte_tick (s : State) (who : Agent) (a : Nat) (b : Byte) : (s.wrByte who a b).tick = s.tick := rfl
@[simp] theorem wrByte_busData (s : State) (who : Agent) (a : Nat) (b : Byte) : (s.wrByte who a b).busData = s.busData := rfl
@[simp] theorem wrByte_memData (s : State) (who : Agent) (a : Nat) (b : Byte) : (s.wrByte who a b).memData = s.memData := rfl

/-! ## The fields an update writes -/

@[simp] theorem complete_seq (s : State) : s.complete.seq = .idle := rfl
@[simp] theorem fatal_seq (s : State) (f : Fatal) : (s.fatal f).seq = .halt := rfl
@[simp] theorem fatal_mode (s : State) (f : Fatal) : (s.fatal f).mode = .halted := rfl
@[simp] theorem fatal_fault (s : State) (f : Fatal) :
    (s.fatal f).fault = if s.fault.code = 0 then ⟨f.code.num, BitVec.ofNat 24 f.info⟩ else s.fault := rfl
@[simp] theorem raiseIrq_irqStatus (s : State) (b : Nat) :
    (s.raiseIrq b).irqStatus = s.irqStatus ||| (BitVec.ofNat 32 (2 ^ b) &&& irqMask) := rfl

/-- Bytes written change the memory and the two records of broken ownership alone. -/
theorem wrBytes_eq (s : State) (who : Agent) (a : Nat) (bs : List Byte) :
    s.wrBytes who a bs =
      { s with
        mem := (s.wrBytes who a bs).mem
        raced := (s.wrBytes who a bs).raced
        lateSamples := (s.wrBytes who a bs).lateSamples } := by
  induction bs generalizing s a with
  | nil => rfl
  | cons b bs ih => rw [State.wrBytes, ih]; rfl

@[simp] theorem wrBytes_mode (s : State) (who : Agent) (a : Nat) (bs : List Byte) :
    (s.wrBytes who a bs).mode = s.mode := by rw [wrBytes_eq]
@[simp] theorem wrBytes_seq (s : State) (who : Agent) (a : Nat) (bs : List Byte) :
    (s.wrBytes who a bs).seq = s.seq := by rw [wrBytes_eq]
@[simp] theorem wrBytes_fault (s : State) (who : Agent) (a : Nat) (bs : List Byte) :
    (s.wrBytes who a bs).fault = s.fault := by rw [wrBytes_eq]
@[simp] theorem wrBytes_chirpToken (s : State) (who : Agent) (a : Nat) (bs : List Byte) :
    (s.wrBytes who a bs).chirpToken = s.chirpToken := by rw [wrBytes_eq]
@[simp] theorem wrBytes_frameToken (s : State) (who : Agent) (a : Nat) (bs : List Byte) :
    (s.wrBytes who a bs).frameToken = s.frameToken := by rw [wrBytes_eq]
@[simp] theorem wrBytes_waitMode (s : State) (who : Agent) (a : Nat) (bs : List Byte) :
    (s.wrBytes who a bs).waitMode = s.waitMode := by rw [wrBytes_eq]
@[simp] theorem wrBytes_irqStatus (s : State) (who : Agent) (a : Nat) (bs : List Byte) :
    (s.wrBytes who a bs).irqStatus = s.irqStatus := by rw [wrBytes_eq]
@[simp] theorem wrBytes_irqEnable (s : State) (who : Agent) (a : Nat) (bs : List Byte) :
    (s.wrBytes who a bs).irqEnable = s.irqEnable := by rw [wrBytes_eq]
@[simp] theorem wrBytes_logAvail (s : State) (who : Agent) (a : Nat) (bs : List Byte) :
    (s.wrBytes who a bs).logAvail = s.logAvail := by rw [wrBytes_eq]
@[simp] theorem wrBytes_arg (s : State) (who : Agent) (a : Nat) (bs : List Byte) :
    (s.wrBytes who a bs).arg = s.arg := by rw [wrBytes_eq]
@[simp] theorem wrBytes_argPast (s : State) (who : Agent) (a : Nat) (bs : List Byte) :
    (s.wrBytes who a bs).argPast = s.argPast := by rw [wrBytes_eq]
@[simp] theorem wrBytes_res0 (s : State) (who : Agent) (a : Nat) (bs : List Byte) :
    (s.wrBytes who a bs).res0 = s.res0 := by rw [wrBytes_eq]
@[simp] theorem wrBytes_res1 (s : State) (who : Agent) (a : Nat) (bs : List Byte) :
    (s.wrBytes who a bs).res1 = s.res1 := by rw [wrBytes_eq]
@[simp] theorem wrBytes_stg (s : State) (who : Agent) (a : Nat) (bs : List Byte) :
    (s.wrBytes who a bs).stg = s.stg := by rw [wrBytes_eq]
@[simp] theorem wrBytes_act (s : State) (who : Agent) (a : Nat) (bs : List Byte) :
    (s.wrBytes who a bs).act = s.act := by rw [wrBytes_eq]
@[simp] theorem wrBytes_numVirtAnt (s : State) (who : Agent) (a : Nat) (bs : List Byte) :
    (s.wrBytes who a bs).numVirtAnt = s.numVirtAnt := by rw [wrBytes_eq]
@[simp] theorem wrBytes_chirpsPerFrame (s : State) (who : Agent) (a : Nat) (bs : List Byte) :
    (s.wrBytes who a bs).chirpsPerFrame = s.chirpsPerFrame := by rw [wrBytes_eq]
@[simp] theorem wrBytes_chirpCount (s : State) (who : Agent) (a : Nat) (bs : List Byte) :
    (s.wrBytes who a bs).chirpCount = s.chirpCount := by rw [wrBytes_eq]
@[simp] theorem wrBytes_txAntCount (s : State) (who : Agent) (a : Nat) (bs : List Byte) :
    (s.wrBytes who a bs).txAntCount = s.txAntCount := by rw [wrBytes_eq]
@[simp] theorem wrBytes_dopBinCount (s : State) (who : Agent) (a : Nat) (bs : List Byte) :
    (s.wrBytes who a bs).dopBinCount = s.dopBinCount := by rw [wrBytes_eq]
@[simp] theorem wrBytes_dcCount (s : State) (who : Agent) (a : Nat) (bs : List Byte) :
    (s.wrBytes who a bs).dcCount = s.dcCount := by rw [wrBytes_eq]
@[simp] theorem wrBytes_frameCount (s : State) (who : Agent) (a : Nat) (bs : List Byte) :
    (s.wrBytes who a bs).frameCount = s.frameCount := by rw [wrBytes_eq]
@[simp] theorem wrBytes_numRawObj (s : State) (who : Agent) (a : Nat) (bs : List Byte) :
    (s.wrBytes who a bs).numRawObj = s.numRawObj := by rw [wrBytes_eq]
@[simp] theorem wrBytes_numObjOut (s : State) (who : Agent) (a : Nat) (bs : List Byte) :
    (s.wrBytes who a bs).numObjOut = s.numObjOut := by rw [wrBytes_eq]
@[simp] theorem wrBytes_droppedFrames (s : State) (who : Agent) (a : Nat) (bs : List Byte) :
    (s.wrBytes who a bs).droppedFrames = s.droppedFrames := by rw [wrBytes_eq]
@[simp] theorem wrBytes_rawTruncCount (s : State) (who : Agent) (a : Nat) (bs : List Byte) :
    (s.wrBytes who a bs).rawTruncCount = s.rawTruncCount := by rw [wrBytes_eq]
@[simp] theorem wrBytes_objTruncCount (s : State) (who : Agent) (a : Nat) (bs : List Byte) :
    (s.wrBytes who a bs).objTruncCount = s.objTruncCount := by rw [wrBytes_eq]
@[simp] theorem wrBytes_numOutDesc (s : State) (who : Agent) (a : Nat) (bs : List Byte) :
    (s.wrBytes who a bs).numOutDesc = s.numOutDesc := by rw [wrBytes_eq]
@[simp] theorem wrBytes_win1d (s : State) (who : Agent) (a : Nat) (bs : List Byte) :
    (s.wrBytes who a bs).win1d = s.win1d := by rw [wrBytes_eq]
@[simp] theorem wrBytes_win1dInfo (s : State) (who : Agent) (a : Nat) (bs : List Byte) :
    (s.wrBytes who a bs).win1dInfo = s.win1dInfo := by rw [wrBytes_eq]
@[simp] theorem wrBytes_win2d (s : State) (who : Agent) (a : Nat) (bs : List Byte) :
    (s.wrBytes who a bs).win2d = s.win2d := by rw [wrBytes_eq]
@[simp] theorem wrBytes_win2dInfo (s : State) (who : Agent) (a : Nat) (bs : List Byte) :
    (s.wrBytes who a bs).win2dInfo = s.win2dInfo := by rw [wrBytes_eq]
@[simp] theorem wrBytes_bmpWord (s : State) (who : Agent) (a : Nat) (bs : List Byte) :
    (s.wrBytes who a bs).bmpWord = s.bmpWord := by rw [wrBytes_eq]
@[simp] theorem wrBytes_bmpCursor (s : State) (who : Agent) (a : Nat) (bs : List Byte) :
    (s.wrBytes who a bs).bmpCursor = s.bmpCursor := by rw [wrBytes_eq]
@[simp] theorem wrBytes_dcSum (s : State) (who : Agent) (a : Nat) (bs : List Byte) :
    (s.wrBytes who a bs).dcSum = s.dcSum := by rw [wrBytes_eq]
@[simp] theorem wrBytes_rawObj (s : State) (who : Agent) (a : Nat) (bs : List Byte) :
    (s.wrBytes who a bs).rawObj = s.rawObj := by rw [wrBytes_eq]
@[simp] theorem wrBytes_objOut (s : State) (who : Agent) (a : Nat) (bs : List Byte) :
    (s.wrBytes who a bs).objOut = s.objOut := by rw [wrBytes_eq]
@[simp] theorem wrBytes_outDesc (s : State) (who : Agent) (a : Nat) (bs : List Byte) :
    (s.wrBytes who a bs).outDesc = s.outDesc := by rw [wrBytes_eq]
@[simp] theorem wrBytes_dma (s : State) (who : Agent) (a : Nat) (bs : List Byte) :
    (s.wrBytes who a bs).dma = s.dma := by rw [wrBytes_eq]
@[simp] theorem wrBytes_chirpScr (s : State) (who : Agent) (a : Nat) (bs : List Byte) :
    (s.wrBytes who a bs).chirpScr = s.chirpScr := by rw [wrBytes_eq]
@[simp] theorem wrBytes_frameScr (s : State) (who : Agent) (a : Nat) (bs : List Byte) :
    (s.wrBytes who a bs).frameScr = s.frameScr := by rw [wrBytes_eq]
@[simp] theorem wrBytes_spaces (s : State) (who : Agent) (a : Nat) (bs : List Byte) :
    (s.wrBytes who a bs).spaces = s.spaces := by rw [wrBytes_eq]
@[simp] theorem wrBytes_before (s : State) (who : Agent) (a : Nat) (bs : List Byte) :
    (s.wrBytes who a bs).before = s.before := by rw [wrBytes_eq]
@[simp] theorem wrBytes_window (s : State) (who : Agent) (a : Nat) (bs : List Byte) :
    (s.wrBytes who a bs).window = s.window := by rw [wrBytes_eq]
@[simp] theorem wrBytes_agenda (s : State) (who : Agent) (a : Nat) (bs : List Byte) :
    (s.wrBytes who a bs).agenda = s.agenda := by rw [wrBytes_eq]
@[simp] theorem wrBytes_tick (s : State) (who : Agent) (a : Nat) (bs : List Byte) :
    (s.wrBytes who a bs).tick = s.tick := by rw [wrBytes_eq]
@[simp] theorem wrBytes_busData (s : State) (who : Agent) (a : Nat) (bs : List Byte) :
    (s.wrBytes who a bs).busData = s.busData := by rw [wrBytes_eq]
@[simp] theorem wrBytes_memData (s : State) (who : Agent) (a : Nat) (bs : List Byte) :
    (s.wrBytes who a bs).memData = s.memData := by rw [wrBytes_eq]

/-- Only a host write can be a late sample. -/
theorem wrBytes_lateSamples (s : State) (who : Agent) (hw : who ≠ .host) (a : Nat) (bs : List Byte) :
    (s.wrBytes who a bs).lateSamples = s.lateSamples := by
  induction bs generalizing s a with
  | nil => rfl
  | cons b bs ih =>
    rw [State.wrBytes, ih]
    simp [State.wrByte, State.isLate, hw]


end Sys2Proof.Machine
end

