-- ==== Sys2Proof/Laws/Memory.lean ====
section
/-! SUPPORT. The laws of the memory: reading after writing, the canonical form, and the reads and writes of an agent while no
transfer is in flight. -/

namespace Sys2Proof.Machine

/-- Reading a byte after a write: the written byte at its own address, the old value elsewhere. -/
theorem memory_get_set (m : Memory) (a : Nat) (b : Byte) (x : Nat) :
    (m.set a b).get x = if x = a then some b else m.get x := by
  induction m with
  | nil =>
    by_cases h : x = a
    · simp [Memory.set, Memory.get, h]
    · simp [Memory.set, Memory.get, h, Ne.symm h]
  | cons c m ih =>
    rw [Memory.set]
    split
    · by_cases h : x = a
      · simp [Memory.get, h]
      · simp [Memory.get, h, Ne.symm h]
    · split
      · next h1 h2 =>
        by_cases h : x = a
        · simp [Memory.get, h]
        · simp [Memory.get, h, Ne.symm h, ← h2]
      · next h1 h2 =>
        by_cases hc : c.1 = x
        · have : x ≠ a := fun h => h2 (by omega)
          simp [Memory.get, hc, this]
        · simp [Memory.get, hc, ih]

/-- The canonical form of a longer list. -/
theorem memory_wf_cons (c : Host.Cell) (m : Memory) :
    Memory.wf (c :: m) = true ↔ (∀ d ∈ m.head?, c.1 < d.1) ∧ Memory.wf m = true := by
  cases m <;> simp [Memory.wf]

/-- The first address after a write is the old first one or the written one. -/
theorem memory_set_head (m : Memory) (a : Nat) (b : Byte) (d : Host.Cell) (h : d ∈ (m.set a b).head?) :
    d.1 = a ∨ d ∈ m.head? := by
  cases m with
  | nil => simp [Memory.set] at h; simp [← h]
  | cons c m =>
    rw [Memory.set] at h
    split at h
    · simp at h; simp [← h]
    · split at h
      · simp at h; simp [← h]
      · simp at h; simp [h]

/-- A write keeps the canonical form. -/
theorem memory_set_wf (m : Memory) (a : Nat) (b : Byte) (h : Memory.wf m = true) : Memory.wf (m.set a b) = true := by
  induction m with
  | nil => simp [Memory.set, Memory.wf]
  | cons c m ih =>
    obtain ⟨h1, h2⟩ := (memory_wf_cons c m).mp h
    rw [Memory.set]
    split
    · exact (memory_wf_cons _ _).mpr ⟨by simpa using ‹_›, h⟩
    · split
      · next h3 h4 => exact (memory_wf_cons _ _).mpr ⟨by rw [h4]; exact h1, h2⟩
      · next h3 h4 =>
        refine (memory_wf_cons _ _).mpr ⟨fun d hd => ?_, ih h2⟩
        rcases memory_set_head m a b d hd with h5 | h5
        · omega
        · exact h1 d h5

/-- The memory after reset has the canonical form. -/
theorem reset_mem_wf : Memory.wf State.reset.mem = true := rfl

/-- Writing bytes keeps the canonical form. -/
theorem wrBytes_wf (s : State) (who : Agent) (a : Nat) (bs : List Byte) (h : Memory.wf s.mem = true) :
    Memory.wf (s.wrBytes who a bs).mem = true := by
  induction bs generalizing s a with
  | nil => exact h
  | cons b bs ih => exact ih _ _ (memory_set_wf _ _ _ h)

/-- Delivering the elements of a transfer keeps the canonical form. -/
theorem deliver_wf (s : State) (who : Agent) (stride a : Nat) (xs : List (List Byte)) (h : Memory.wf s.mem = true) :
    Memory.wf (s.deliver who stride a xs).mem = true := by
  induction xs generalizing s a with
  | nil => exact h
  | cons x xs ih => exact ih _ _ (wrBytes_wf s who a x h)

/-- No transfer is in flight and no completion waits to be consumed. -/
def NoTransfer (s : State) : Prop := ∀ p, (s.chan p).xfer = .idle

/-- Without transfers no byte is owned by anyone. -/
theorem foreignDst_of_noTransfer {s : State} (h : NoTransfer s) (who : Agent) (a : Nat) : s.foreignDst who a = false := by
  simp [State.foreignDst, h _, Xfer.ownsWrite]

/-- Without transfers no write is remembered as a race. -/
theorem watchers_of_noTransfer {s : State} (h : NoTransfer s) (who : Agent) (a : Nat) : s.watchers who a = [] := by
  simp [State.watchers, h _, Xfer.awaits]

/-- Without transfers a read of the sequencer or the host answers what memory holds. -/
theorem rdByte_of_noTransfer {s : State} (h : NoTransfer s) (who : Agent) (hw : ∀ p, who ≠ .channel p) (a : Nat) :
    s.rdByte who a = (s.mem.get a).getD (Config.powerUpByte a) := by
  cases who with
  | channel p => exact absurd rfl (hw p)
  | sequencer => simp [State.rdByte, foreignDst_of_noTransfer h, State.wasRaced, State.fetchesLate]
  | host => simp [State.rdByte, foreignDst_of_noTransfer h, State.wasRaced, State.fetchesLate]

/-- Without transfers a write of the sequencer or the host that is no late sample stores the byte and nothing else. -/
theorem wrByte_of_noTransfer {s : State} (h : NoTransfer s) (who : Agent) (hw : ∀ p, who ≠ .channel p) (a : Nat) (b : Byte)
    (hl : s.isLate who a = false) : s.wrByte who a b = { s with mem := s.mem.set a b } := by
  cases who with
  | channel p => exact absurd rfl (hw p)
  | sequencer => simp [State.wrByte, foreignDst_of_noTransfer h, watchers_of_noTransfer h, State.wasRaced, hl]
  | host => simp [State.wrByte, foreignDst_of_noTransfer h, watchers_of_noTransfer h, State.wasRaced, hl]

/-- The sequencer's writes are no late samples (R404). -/
@[simp] theorem isLate_sequencer (s : State) (a : Nat) : s.isLate .sequencer a = false := rfl

/-- An address lies in a footprint exactly when it lies in one of its ranges (R204). -/
theorem covers_iff (base esize ecount stride a : Nat) :
    covers base esize ecount stride a = true
      ↔ ∃ e, e < ecount ∧ base + e * stride ≤ a ∧ a < base + e * stride + esize := by
  unfold covers
  simp only [Bool.and_eq_true, decide_eq_true_eq]
  constructor
  · rintro ⟨⟨h0, h1⟩, h2⟩
    refine ⟨min ((a - base) / stride) (ecount - 1), by omega, ?_, ?_⟩
    · have h3 : min ((a - base) / stride) (ecount - 1) * stride ≤ (a - base) / stride * stride :=
        Nat.mul_le_mul_right _ (Nat.min_le_left _ _)
      have h4 := Nat.div_mul_le_self (a - base) stride
      omega
    · omega
  · rintro ⟨e, h0, h1, h2⟩
    refine ⟨⟨by omega, by omega⟩, ?_⟩
    have h3 : e * stride ≤ min ((a - base) / stride) (ecount - 1) * stride := by
      rcases Nat.eq_zero_or_pos stride with hs | hs
      · simp [hs]
      · apply Nat.mul_le_mul_right
        apply Nat.le_min.mpr
        exact ⟨(Nat.le_div_iff_mul_le hs).mpr (by omega), by omega⟩
    omega

end Sys2Proof.Machine
end

