-- ==== Sys2Proof/Laws/Ops.lean ====
section
/-! SUPPORT. How sequencer work evaluates, what each shared operation can answer, and the rule that carries a relation
between states through any sequencer work. -/

namespace Sys2Proof.Machine

/-! ## Evaluation -/

/-- What follows a piece of work: the rest, or the Fatal it raised. -/
def thenWith {α β : Type} (r : EStateM.Result Fatal State α) (f : α → Seqr β) : EStateM.Result Fatal State β :=
  match r with
  | .ok a t => f a t
  | .error e t => .error e t

@[simp] theorem thenWith_ok {α β : Type} (a : α) (t : State) (f : α → Seqr β) : thenWith (.ok a t) f = f a t := rfl

@[simp] theorem thenWith_error {α β : Type} (e : Fatal) (t : State) (f : α → Seqr β) :
    thenWith (.error e t) f = .error e t := rfl

@[simp] theorem seqr_bind {α β : Type} (m : Seqr α) (f : α → Seqr β) (s : State) :
    (m >>= f) s = thenWith (m s) f := by
  show EStateM.bind m f s = _
  unfold EStateM.bind thenWith
  cases m s <;> rfl

@[simp] theorem seqr_map {α β : Type} (g : α → β) (m : Seqr α) (s : State) :
    (g <$> m) s = thenWith (m s) fun a => pure (g a) := by
  show EStateM.map g m s = _
  unfold EStateM.map thenWith
  cases m s <;> rfl

@[simp] theorem seqr_pure {α : Type} (a : α) (s : State) : (pure a : Seqr α) s = .ok a s := rfl

@[simp] theorem seqr_get (s : State) : (get : Seqr State) s = .ok s s := rfl

@[simp] theorem seqr_modify (f : State → State) (s : State) : (modify f : Seqr Unit) s = .ok () (f s) := rfl

@[simp] theorem seqr_modifyGet {α : Type} (f : State → α × State) (s : State) :
    (modifyGet f : Seqr α) s = .ok (f s).1 (f s).2 := rfl

@[simp] theorem seqr_raise {α : Type} (code : FaultCode) (info : Nat) (s : State) :
    (raise code info : Seqr α) s = .error ⟨code, info⟩ s := rfl

/-- A check either passes without effect or raises its Fatal. -/
theorem seqr_require (ok : Bool) (code : FaultCode) (info : Nat) (s : State) :
    require ok code info s = if ok then .ok () s else .error ⟨code, info⟩ s := by
  cases ok <;> rfl

@[simp] theorem require_true (code : FaultCode) (info : Nat) : require true code info = pure () := rfl

@[simp] theorem require_false (code : FaultCode) (info : Nat) : require false code info = raise code info := rfl

/-- A command in a mode that admits it is its body. -/
theorem command_admitted {i : Instr} {body : Seqr Flow} {s : State} (h : admitted i s.mode = true) :
    command i body s = settle body s := by
  simp [command, settle, h]

/-- A command in a mode that does not admit it is the Fatal `CMD_MODE`. -/
theorem command_refused {i : Instr} {body : Seqr Flow} {s : State} (h : admitted i s.mode = false) :
    command i body s = s.fatal ⟨.cmdMode, i.opcode⟩ := by
  simp [command, settle, h]

/-- How a body that ends the command settles. -/
theorem settle_thenDone (body : Seqr Unit) (s : State) :
    settle (thenDone body) s = match body s with | .ok _ t => t.complete | .error f t => t.fatal f := by
  simp only [settle, thenDone, seqr_bind]
  cases body s <;> rfl

/-! ## Memory accesses -/

/-- `MemRead` answers the number the bytes hold, the state unchanged, or raises `MEM_BOUNDS`. -/
theorem memRead_eq (addr n : Nat) (s : State) :
    memRead addr n s = if s.spaces.admits false addr n then .ok (leNat (s.rdBytes .sequencer addr n)) s
      else .error ⟨.memBounds, addr⟩ s := by
  cases h : s.spaces.admits false addr n <;> simp [memRead, h]

/-- `MemWrite` stores the bytes of the number, or raises `MEM_BOUNDS`. -/
theorem memWrite_eq (addr n v : Nat) (s : State) :
    memWrite addr n v s = if s.spaces.admits true addr n then .ok () (s.wrBytes .sequencer addr (leBytes n v))
      else .error ⟨.memBounds, addr⟩ s := by
  cases h : s.spaces.admits true addr n <;> simp [memWrite, h]

/-- The alignment check passes or raises `MEM_ALIGN`. -/
theorem aligned_eq (addr n : Nat) (s : State) :
    aligned addr n s = if addr % n = 0 then .ok () s else .error ⟨.memAlign, addr⟩ s := by
  simp [aligned, seqr_require]

/-- Reads that all answer without changing the state answer the list of their results. -/
theorem readEach_ok {α : Type} (f : Nat → Seqr α) (v : Nat → α) (l : List Nat) (s : State)
    (h : ∀ i ∈ l, f i s = .ok (v i) s) : readEach f l s = .ok (l.map v) s := by
  induction l with
  | nil => rfl
  | cons i l ih =>
    simp [readEach, h i (by simp), ih fun j hj => h j (by simp [hj])]

/-! ## Relations carried through sequencer work -/

/-- The state in which a piece of work ends. -/
def endState {α : Type} : EStateM.Result Fatal State α → State
  | .ok _ t => t
  | .error _ t => t

/-- The work takes every state to a related one, whether it ends or raises. -/
def Carries {α : Type} (R : State → State → Prop) (m : Seqr α) : Prop := ∀ s, R s (endState (m s))

/-- A relation that work can carry. -/
structure Carried (R : State → State → Prop) : Prop where
  refl : ∀ s, R s s
  trans : ∀ s t u, R s t → R t u → R s u

section
variable {R : State → State → Prop} {α β : Type}

theorem carries_pure (h : Carried R) (a : α) : Carries R (pure a : Seqr α) := fun s => h.refl s

theorem carries_get (h : Carried R) : Carries R (get : Seqr State) := fun s => h.refl s

theorem carries_raise (h : Carried R) (code : FaultCode) (info : Nat) : Carries R (raise code info : Seqr α) :=
  fun s => h.refl s

theorem carries_modify {f : State → State} (hf : ∀ s, R s (f s)) : Carries R (modify f : Seqr Unit) := hf

theorem carries_bind (h : Carried R) {m : Seqr α} {f : α → Seqr β} (hm : Carries R m) (hf : ∀ a, Carries R (f a)) :
    Carries R (m >>= f) := by
  intro s
  have h1 := hm s
  rw [seqr_bind]
  cases hms : m s with
  | error e t => simpa [hms, endState] using h1
  | ok a t =>
    rw [hms] at h1
    exact h.trans _ _ _ h1 (hf a t)

theorem carries_require (h : Carried R) (ok : Bool) (code : FaultCode) (info : Nat) :
    Carries R (require ok code info) := by
  cases ok
  · exact carries_raise h code info
  · exact carries_pure h ()

theorem carries_ite (c : Prop) [Decidable c] {m n : Seqr α} (hm : Carries R m) (hn : Carries R n) :
    Carries R (if c then m else n) := by
  split
  · exact hm
  · exact hn

theorem carries_readEach (h : Carried R) {f : Nat → Seqr α} (hf : ∀ i, Carries R (f i)) (l : List Nat) :
    Carries R (readEach f l) := by
  induction l with
  | nil => exact carries_pure h _
  | cons i l ih => exact carries_bind h (hf i) fun _ => carries_bind h ih fun _ => carries_pure h _

theorem carries_writeEach (h : Carried R) {f : Nat → α → Seqr Unit} (hf : ∀ i x, Carries R (f i x)) (l : List α) :
    ∀ i, Carries R (writeEach f i l) := by
  induction l with
  | nil => exact fun _ => carries_pure h _
  | cons x l ih => exact fun i => carries_bind h (hf i x) fun _ => ih (i + 1)

theorem carries_memRead (h : Carried R) (addr n : Nat) : Carries R (memRead addr n) :=
  carries_bind h (carries_get h) fun _ => carries_bind h (carries_require h _ _ _) fun _ => carries_pure h _

theorem carries_memWrite (h : Carried R) (hw : ∀ s a bs, R s (s.wrBytes .sequencer a bs)) (addr n v : Nat) :
    Carries R (memWrite addr n v) :=
  carries_bind h (carries_get h) fun _ => carries_bind h (carries_require h _ _ _) fun _ =>
    carries_modify fun s => hw s _ _

end

/-- What settling does to a relation that a completion, a Fatal and a new position keep. -/
theorem settle_carries {R : State → State → Prop} (h : Carried R) {body : Seqr Flow} (hb : Carries R body)
    (hseq : ∀ s q, R s { s with seq := q }) (hdone : ∀ s, R s s.complete) (hfatal : ∀ s f, R s (s.fatal f)) (s : State) :
    R s (settle body s) := by
  have h1 := hb s
  simp only [settle]
  split <;> rename_i heq <;> rw [heq] at h1
  · exact h.trans _ _ _ h1 (hdone _)
  · exact h.trans _ _ _ h1 (hseq _ _)
  · exact h.trans _ _ _ h1 (hseq _ _)
  · exact h.trans _ _ _ h1 (hseq _ _)
  · exact h.trans _ _ _ h1 (hfatal _ _)

end Sys2Proof.Machine
end

