-- ==== Sys2Proof/Laws/Dma.lean ====
section
/-! SUPPORT. What the shared operations on channels can answer. -/

namespace Sys2Proof.Machine

/-- Reading a channel after writing one. -/
theorem chan_setChan (s : State) (p q : Nat) (c : Chan) (hp : p < 12) :
    (s.setChan p c).chan q = if q = p then c else s.chan q := by
  simp only [State.chan, State.setChan, tabGet, tabSet, Vector.toList_setIfInBounds]
  by_cases h : q = p
  · subst h; simp [List.getD, hp]
  · simp [List.getD, h, List.getElem?_set_ne (Ne.symm h)]

/-- `DmaStart` on a channel that passes the four checks. -/
theorem dmaStart_ok (p : Nat) (s : State) (hp : p < 12) (hc : (s.chan p).configured = true)
    (hs : (s.chan p).srcBound = true) (hd : (s.chan p).dstBound = true) (hx : (s.chan p).xfer = .idle) :
    dmaStart p s = .ok () (s.setChan p { s.chan p with xfer := .busy (s.chan p).desc }) := by
  simp [dmaStart, channelExists, hp, hc, hs, hd, hx, Xfer.isIdle]

/-- `DmaStart` either starts the channel or raises, the state unchanged. -/
theorem dmaStart_cases (p : Nat) (s : State) :
    (∃ f, dmaStart p s = .error f s)
      ∨ dmaStart p s = .ok () (s.setChan p { s.chan p with xfer := .busy (s.chan p).desc }) := by
  by_cases h1 : p < Config.numDmaPhys
  · by_cases h2 : (s.chan p).configured = true
    · by_cases h3 : (s.chan p).srcBound = true ∧ (s.chan p).dstBound = true
      · by_cases h4 : (s.chan p).xfer.isIdle = true
        · exact .inr (by simp [dmaStart, channelExists, h1, h2, h3, h4])
        · exact .inl ⟨⟨.dmaProtocol, p⟩, by simp [dmaStart, channelExists, h1, h2, h3, h4]⟩
      · exact .inl ⟨⟨.dmaConfig, 0x30 ||| p⟩, by simp [dmaStart, channelExists, seqr_require, h1, h2, h3]⟩
    · exact .inl ⟨⟨.dmaConfig, 0x20 ||| p⟩, by simp [dmaStart, channelExists, h1, h2]⟩
  · exact .inl ⟨⟨.dmaConfig, p⟩, by simp [dmaStart, channelExists, h1]⟩

/-- `DmaWait` on a channel whose completion waits to be consumed goes on at once. -/
theorem awaitThen_done (p : Nat) (q : Pos) (k : Seqr Flow) (s : State) (hp : p < 12)
    (h : (s.chan p).xfer.isDone = true) : awaitThen p q k s = k (s.consume p) := by
  simp [awaitThen, channelExists, hp, h]

/-- `DmaWait` on a channel without a completion blocks, the state unchanged. -/
theorem awaitThen_wait (p : Nat) (q : Pos) (k : Seqr Flow) (s : State) (hp : p < 12)
    (h : (s.chan p).xfer.isDone = false) : awaitThen p q k s = .ok (.wait p q) s := by
  simp [awaitThen, channelExists, hp, h]

/-- `ProgramPipeline` programs the channels when all are idle and otherwise raises for the least that is not. -/
theorem programPipeline_eq (ps : List Nat) (s : State) :
    programPipeline ps s = match s.leastChan (fun c => !c.xfer.isIdle) ps with
      | some p => .error ⟨.dmaProtocol, p⟩ s
      | none => .ok () (s.program ps) := by
  cases h : s.leastChan (fun c => !c.xfer.isIdle) ps <;> simp [programPipeline, h]

/-- Everything the perform step of a channel can do. -/
theorem perform_cases (s : State) (p : Nat) :
    s.perform p = s
      ∨ (∃ d, (s.chan p).xfer = .busy d ∧ s.mode ≠ .halted ∧ d.admitted s.spaces = true
          ∧ s.perform p
            = (s.deliver (.channel p) d.dstride.toNat d.dst.toNat (s.fetch p d)).finishTransfer p d)
      ∨ (∃ d, (s.chan p).xfer = .busy d ∧ s.mode ≠ .halted ∧ d.admitted s.spaces = false
          ∧ s.perform p = s.fatal ⟨.dmaError, p⟩) := by
  unfold State.perform
  split
  · exact .inl rfl
  · exact .inl rfl
  · rename_i d hd
    split
    · exact .inl rfl
    · split
      · exact .inr (.inl ⟨d, hd, ‹_›, ‹_›, rfl⟩)
      · exact .inr (.inr ⟨d, hd, ‹_›, by simpa using ‹¬ d.admitted s.spaces = true›, rfl⟩)

end Sys2Proof.Machine
end

