-- ==== Sys2Proof/Laws/Host.lean ====
section
/-! SUPPORT. What the host's two ports can do and can answer. -/

namespace Sys2Proof.Machine

/-! ## Registers -/

/-- A write of an aligned offset other than `CMD` while the block is not halted is a write of that register. -/
theorem busWrite_eq_writeReg {s : State} {off : Nat} (h4 : off % 4 = 0) (hc : off ≠ 0x00C) (hm : s.mode ≠ .halted) (w : Word) :
    s.busWrite off w = s.writeReg off w := by
  simp [State.busWrite, h4, hc, hm]

/-- A halted block ignores every write (U2). -/
theorem busWrite_halted {s : State} (hm : s.mode = .halted) (off : Nat) (w : Word) : s.busWrite off w = s :=
  if_pos (.inr hm)

/-- Below `NUM_RAW_OBJ` the host reads the stored candidate (R52). -/
theorem rawEntry_of_lt {s : State} {i : Nat} (h : i < s.numRawObj.toNat) : s.rawEntry i = tabGet s.rawObj i default := if_pos h

/-- At and above `NUM_RAW_OBJ` it reads a free value (R52). -/
theorem rawEntry_of_le {s : State} {i : Nat} (h : s.numRawObj.toNat ≤ i) :
    s.rawEntry i = RawObj.free s.tick (0x2000 + 8 * i) := if_neg (by omega)

/-- Below `NUM_OBJ_OUT` the host reads the stored object (R53). -/
theorem objEntry_of_lt {s : State} {i : Nat} (h : i < s.numObjOut.toNat) : s.objEntry i = tabGet s.objOut i default := if_pos h

/-- At and above `NUM_OBJ_OUT` it reads a free value (R53). -/
theorem objEntry_of_le {s : State} {i : Nat} (h : s.numObjOut.toNat ≤ i) :
    s.objEntry i = ObjOut.free s.tick (0x3000 + 16 * i) := if_neg (by omega)

/-- What `RES` or a table reads as while the block is busy is one of three values (R58, U7). -/
theorem busyReg_cases (s : State) (off : Nat) :
    s.busyReg off = s.readReg off ∨ s.busyReg off = s.ahead.readReg off ∨ s.busyReg off = s.earlier.readReg off := by
  unfold State.busyReg
  split <;> simp

/-- Before the running sequence nothing but the tables differs from what it is now. -/
theorem earlier_eq (s : State) : s.earlier = s ∨ s.earlier = s.withTables s.before := by
  unfold State.earlier
  split <;> simp

/-- The tables a state has are those it has. -/
@[simp] theorem withTables_tables (s : State) : s.withTables s.tables = s := by
  simp [State.withTables, State.tables]

/-- A host read answers the register's value or one of the values of U7. -/
theorem busRead_cases (s : State) (off : Nat) :
    s.busRead off = s.readReg off ∨ (s.seq.busy = true ∧ torn off = true ∧ s.busRead off = s.busyReg off) := by
  unfold State.busRead
  split
  · rename_i h
    simp only [Bool.and_eq_true] at h
    exact .inr ⟨h.1, h.2, rfl⟩
  · exact .inl rfl

/-- A block that is not busy answers the register's value, for every register and table (R58). -/
theorem busRead_idle {s : State} (hb : s.seq.busy = false) (off : Nat) : s.busRead off = s.readReg off := by
  simp [State.busRead, hb]

/-! ## The results window and the memory port -/

@[simp] theorem Window.close_raw (w : Window) (q : Shown) : (w.close q).raw = w.raw := rfl

@[simp] theorem Window.close_objs (w : Window) (q : Shown) : (w.close q).objs = w.objs := rfl

@[simp] theorem Window.show_raw (w : Window) (q : Shown) : (w.show q).raw = w.raw := rfl

@[simp] theorem Window.show_objs (w : Window) (q : Shown) : (w.show q).objs = w.objs := rfl

@[simp] theorem State.endRun_mode (s : State) : s.endRun.mode = .configured := rfl

theorem Shown.has_iff (r : Shown) (a : Nat) : r.has a = true ↔ r.base ≤ a ∧ a < r.base + r.size := by
  simp [Shown.has]

/-- What is left of `r` without `q` is exactly its bytes that `q` does not have. -/
theorem minus_has (r q : Shown) (a : Nat) : (∃ p ∈ r.minus q, p.has a = true) ↔ r.has a = true ∧ q.has a = false := by
  have hq : q.has a = false ↔ ¬ (q.base ≤ a ∧ a < q.base + q.size) := by rw [← Shown.has_iff]; simp
  simp only [Shown.minus, List.mem_filter, List.mem_cons, List.not_mem_nil, or_false, bne_iff_ne, ne_eq, Shown.has_iff, hq]
  constructor
  · rintro ⟨p, ⟨rfl | rfl, _⟩, h1, h2⟩ <;> simp only at h1 h2 <;> omega
  · rintro ⟨⟨h1, h2⟩, h3⟩
    by_cases h : a < q.base
    · exact ⟨_, ⟨.inl rfl, by simp only; omega⟩, by simp only; omega⟩
    · exact ⟨_, ⟨.inr rfl, by simp only; omega⟩, by simp only; omega⟩

/-- A rewritten buffer takes itself and the bytes where it lies out of the window, and nothing else (R102, R337). -/
theorem shows_close (w : Window) (q : Shown) (a : Nat) :
    (w.close q).shows a = true ↔ (∃ r ∈ w.shown, r.buf ≠ q.buf ∧ r.has a = true) ∧ q.has a = false := by
  simp only [Window.shows, Window.close, List.any_eq_true, List.mem_flatMap, List.mem_filter, bne_iff_ne, ne_eq]
  constructor
  · rintro ⟨p, ⟨r, ⟨hr, hb⟩, hp⟩, ha⟩
    have := (minus_has r q a).mp ⟨p, hp, ha⟩
    exact ⟨⟨r, hr, hb, this.1⟩, this.2⟩
  · rintro ⟨⟨r, hr, hb, ha⟩, hq⟩
    obtain ⟨p, hp, h⟩ := (minus_has r q a).mpr ⟨ha, hq⟩
    exact ⟨p, ⟨r, ⟨hr, hb⟩, hp⟩, h⟩

/-- A shown place is readable, and what was readable elsewhere stays so, but for the old place of the same buffer. -/
theorem shows_show (w : Window) (q : Shown) (a : Nat) :
    (w.show q).shows a = true ↔ q.has a = true ∨ ∃ r ∈ w.shown, r.buf ≠ q.buf ∧ r.has a = true := by
  have h : (w.show q).shows a = (q.has a || (w.close q).shows a) := by simp [Window.shows, Window.show]
  rw [h, Bool.or_eq_true, shows_close]
  cases q.has a <;> simp

/-- Outside every result buffer, and where a published result stands untouched, a read is inside the window (R102). -/
theorem outsideWindow_eq_false {s : State} {a : Nat} (h : s.inResult a = true → s.window.shows a = true) :
    s.outsideWindow a = false := by
  cases hi : s.inResult a <;> simp [State.outsideWindow, hi, h]

/-- Before CFG.COMMIT has placed a buffer there is no window to be outside of (R390 (6), R391). -/
theorem outsideWindow_not_laidOut {s : State} (h : s.laidOut = false) (a : Nat) : s.outsideWindow a = false :=
  outsideWindow_eq_false fun hi => by simp [State.inResult, h] at hi

/-- After a frame is published every result is readable where it stands (R102). -/
theorem outsideWindow_published {s : State} (h : s.window = s.published) (a : Nat) : s.outsideWindow a = false := by
  refine outsideWindow_eq_false fun hi => ?_
  simp only [State.inResult, Bool.and_eq_true, List.any_eq_true] at hi
  obtain ⟨_, k, hk, ha⟩ := hi
  rw [h, Window.shows, List.any_eq_true]
  exact ⟨s.placeOf k, List.mem_map_of_mem hk, ha⟩

/-- A host read inside the window is a read of memory under the ownership rule (R101, R102). -/
theorem hostByte_eq {s : State} {a : Nat} (h : s.outsideWindow a = false) : s.hostByte a = s.rdByte .host a := by
  simp [State.hostByte, h]

end Sys2Proof.Machine
end

