-- ==== Sys2Proof/Laws/PerInstr.lean ====
section
/-! SUPPORT. A law of every command: its word carries its opcode in the field `OPC` (R111, R114). -/

namespace Sys2Proof.Laws.EncodedOpcode

/-- The word of a well-formed command has the command's `OPC` (R111, R114). -/
def Statement (i : Instr) : Prop := i.wellFormed = true → opcOf (encode i) = i.opcode

/-- The `OPC` field of a word put together from fields that fit. -/
theorem opcOf_fields (opc sel imm : Nat) (ho : opc < 2 ^ 8) (hs : sel < 2 ^ 8) (hi : imm < 2 ^ 16) :
    opcOf (BitVec.ofNat 32 (opc * 2 ^ 24 + sel * 2 ^ 16 + imm)) = opc := by
  simp only [opcOf, BitVec.toNat_ofNat]
  omega

/-- A flag as a number is at most 1. -/
theorem toNat_le_one (b : Bool) : b.toNat ≤ 1 := by cases b <;> decide


theorem nop : Statement (.nop) := fun _ => by decide

theorem cfgCommit : Statement (.cfgCommit) := fun _ => by decide

theorem runStart : Statement (.runStart) := fun _ => by decide

theorem runStop : Statement (.runStop) := fun _ => by decide

theorem bmpReset : Statement (.bmpReset) := fun _ => by decide

theorem bmpSet (index : Nat) : Statement (.bmpSet index) := fun h =>
  opcOf_fields _ _ _ (by simp [Instr.opcode]) (by simp [Instr.selector]) (of_decide_eq_true h)

theorem bmpTest (index : Nat) : Statement (.bmpTest index) := fun h =>
  opcOf_fields _ _ _ (by simp [Instr.opcode]) (by simp [Instr.selector]) (of_decide_eq_true h)

theorem bmpNext : Statement (.bmpNext) := fun _ => by decide

theorem winGen (table : WinTable) (kind : WinKind) : Statement (.winGen table kind) := fun _ => by cases table <;> cases kind <;> decide

theorem fft1d : Statement (.fft1d) := fun _ => by decide

theorem fft2d : Statement (.fft2d) := fun _ => by decide

theorem fft3d : Statement (.fft3d) := fun _ => by decide

theorem dmaCfg (p : Nat) (nullSrc nullDst prio ien : Bool) : Statement (.dmaCfg p nullSrc nullDst prio ien) := fun h =>
  opcOf_fields _ _ _ (by simp [Instr.opcode]) (by
    have h0 : p < 2 ^ 4 := of_decide_eq_true h
    have h1 := toNat_le_one nullSrc
    have h2 := toNat_le_one nullDst
    have h3 := toNat_le_one prio
    have h4 := toNat_le_one ien
    simp only [Instr.selector]
    omega) (by simp [Instr.immediate])

theorem dmaStart (p : Nat) : Statement (.dmaStart p) := fun h =>
  opcOf_fields _ _ _ (by simp [Instr.opcode]) (Nat.lt_of_lt_of_le (of_decide_eq_true h) (by decide)) (by simp [Instr.immediate])

theorem dmaRetrig (p : Nat) : Statement (.dmaRetrig p) := fun h =>
  opcOf_fields _ _ _ (by simp [Instr.opcode]) (Nat.lt_of_lt_of_le (of_decide_eq_true h) (by decide)) (by simp [Instr.immediate])

theorem dmaWait (p : Nat) : Statement (.dmaWait p) := fun h =>
  opcOf_fields _ _ _ (by simp [Instr.opcode]) (Nat.lt_of_lt_of_le (of_decide_eq_true h) (by decide)) (by simp [Instr.immediate])

theorem cfarDop : Statement (.cfarDop) := fun _ => by decide

theorem cfarRng (d : Nat) : Statement (.cfarRng d) := fun h =>
  opcOf_fields _ _ _ (by simp [Instr.opcode]) (by simp [Instr.selector]) (of_decide_eq_true h)

theorem pkgrpRun : Statement (.pkgrpRun) := fun _ => by decide

theorem angleObj (i : Nat) : Statement (.angleObj i) := fun h =>
  opcOf_fields _ _ _ (by simp [Instr.opcode]) (by simp [Instr.selector]) (of_decide_eq_true h)

theorem xyEst (r : Nat) : Statement (.xyEst r) := fun h =>
  opcOf_fields _ _ _ (by simp [Instr.opcode]) (by simp [Instr.selector]) (of_decide_eq_true h)

theorem chirpProc : Statement (.chirpProc) := fun _ => by decide

theorem frameProc : Statement (.frameProc) := fun _ => by decide

theorem outAsm : Statement (.outAsm) := fun _ => by decide

end Sys2Proof.Laws.EncodedOpcode
end

