-- ==== Sys2Proof/Tests/Slice0.lean ====
section
/-! SUPPORT. The author's own tests: ill-formed terms that WellFormed refuses, command words written out from R111 to R115,
one or two steps of each command with results printed in the spec, and for each statement with hypotheses a state that meets
them. -/

namespace Sys2Proof.Tests

/- One theorem at a time: elaborated side by side they hold a thread and its stack each. -/
set_option Elab.async false

open Sys2Proof.Machine Sys2Proof.Claim

/-! ## Well-formedness -/

theorem test_wf_bmpSet : (Instr.bmpSet 65536).wellFormed = false ∧ (Instr.bmpSet 65535).wellFormed = true := by decide
theorem test_wf_bmpTest : (Instr.bmpTest 65536).wellFormed = false := by decide
theorem test_wf_cfarRng : (Instr.cfarRng 65536).wellFormed = false := by decide
theorem test_wf_angleObj : (Instr.angleObj 65536).wellFormed = false := by decide
theorem test_wf_xyEst : (Instr.xyEst 65536).wellFormed = false := by decide
theorem test_wf_dmaCfg : (Instr.dmaCfg 16 false false false false).wellFormed = false := by decide
theorem test_wf_dmaStart : (Instr.dmaStart 16).wellFormed = false ∧ (Instr.dmaStart 15).wellFormed = true := by decide
theorem test_wf_dmaRetrig : (Instr.dmaRetrig 16).wellFormed = false := by decide
theorem test_wf_dmaWait : (Instr.dmaWait 16).wellFormed = false := by decide

/-! ## Decoding: words put together by hand from the field tables -/

/-- 40_control.md: words of R137, R132, R135, R136. -/
theorem test_decode_control :
    decode 0b00000000_00000000_0000000000000000 = .ok .nop ∧ decode 0b00000001_00000000_0000000000000000 = .ok .cfgCommit
      ∧ decode 0b00000010_00000000_0000000000000000 = .ok .runStart
      ∧ decode 0b00000011_00000000_0000000000000000 = .ok .runStop := by decide

/-- 41_bitmap.md: words of R151 to R154, the index of R152's example in `IMM`. -/
theorem test_decode_bitmap :
    decode 0b00010000_00000000_0000000000000000 = .ok .bmpReset
      ∧ decode 0b00010001_00000000_0000000000100101 = .ok (.bmpSet 37)
      ∧ decode 0b00010010_00000000_0000000000100101 = .ok (.bmpTest 37)
      ∧ decode 0b00010011_00000000_0000000000000000 = .ok .bmpNext := by decide

/-- R115: `TABLE` is bit 0 and `KIND` bits 2:1 of `SEL`. -/
theorem test_decode_winGen :
    decode 0b00100000_00000000_0000000000000000 = .ok (.winGen .win1d .blackman)
      ∧ decode 0b00100000_00000011_0000000000000000 = .ok (.winGen .win2d .hanning)
      ∧ decode 0b00100000_00000100_0000000000000000 = .ok (.winGen .win1d .rectangular)
      ∧ decode 0b00100000_00000111_0000000000000000 = .ok (.winGen .win2d .notAWindow) := by decide

theorem test_decode_transforms :
    decode 0b00100001_00000000_0000000000000000 = .ok .fft1d ∧ decode 0b00100010_00000000_0000000000000000 = .ok .fft2d
      ∧ decode 0b00100011_00000000_0000000000000000 = .ok .fft3d := by decide

/-- R115: `P` is bits 3:0, then `NULLSRC`, `NULLDST`, `PRIO`, `IEN`. -/
theorem test_decode_dma :
    decode 0b00110000_10001011_0000000000000000 = .ok (.dmaCfg 11 false false false true)
      ∧ decode 0b00110000_00010000_0000000000000000 = .ok (.dmaCfg 0 true false false false)
      ∧ decode 0b00110000_01100101_0000000000000000 = .ok (.dmaCfg 5 false true true false)
      ∧ decode 0b00110001_00001011_0000000000000000 = .ok (.dmaStart 11)
      ∧ decode 0b00110010_00001011_0000000000000000 = .ok (.dmaRetrig 11)
      ∧ decode 0b00110011_00001111_0000000000000000 = .ok (.dmaWait 15) := by decide

theorem test_decode_detection :
    decode 0b01000000_00000000_0000000000000000 = .ok .cfarDop
      ∧ decode 0b01000001_00000000_0000000000000111 = .ok (.cfarRng 7)
      ∧ decode 0b01010000_00000000_0000000000000000 = .ok .pkgrpRun
      ∧ decode 0b01100000_00000000_0000000000000010 = .ok (.angleObj 2)
      ∧ decode 0b01100001_00000000_0000000000110010 = .ok (.xyEst 50) := by decide

theorem test_decode_sequences :
    decode 0b01110000_00000000_0000000000000000 = .ok .chirpProc
      ∧ decode 0b01110001_00000000_0000000000000000 = .ok .frameProc
      ∧ decode 0b01110010_00000000_0000000000000000 = .ok .outAsm := by decide

/-- R112, R113: must-be-zero bits of each format, and opcodes between the listed ones. -/
theorem test_decode_refuses :
    decode 0x00000001 = .error .reservedBitSet ∧ decode 0x00010000 = .error .reservedBitSet
      ∧ decode 0x11010005 = .error .reservedBitSet ∧ decode 0x20080000 = .error .reservedBitSet
      ∧ decode 0x20000001 = .error .reservedBitSet ∧ decode 0x31100000 = .error .reservedBitSet
      ∧ decode 0x30000001 = .error .reservedBitSet ∧ decode 0x04000000 = .error .unlistedOpcode
      ∧ decode 0x14000000 = .error .unlistedOpcode ∧ decode 0xFF000000 = .error .unlistedOpcode := by decide

theorem test_decodeTableWord : decodeTableWord 32 0x11000025 = some (.bmpSet 37) ∧ decodeTableWord 32 0x04000000 = none := by
  decide

/-! ## A small block -/

/-- The configuration of R139's example with a sequential placement in tier C. -/
def cfg : Cfg :=
  { Cfg.zero with
    numRx := 1
    numTx := 1
    numAdc := 16
    numRange := 16
    numDop := 16
    rangeRes := 52429
    xyzQ := 8
    cfarRng := ⟨0, false, 3, 1, 2, 0⟩
    cfarDop := ⟨0, true, 3, 0, 2, 0⟩
    pkMax := 15
    bufBase := #v[0x80000000, 0x80000040, 0x80000080, 0x800000C0, 0x80000100, 0x80000500, 0x80000700, 0x80000740,
      0x80000780, 0x800007A0, 0x800007C0, 0x800007E0, 0x80000800, 0x80000840, 0x800008C0, 0x800008E0, 0x80000900,
      0x80000DC0] }

/-- The block configured with it, both windows generated, operands 0. -/
def ready : State :=
  { State.reset with
    mode := .configured
    stg := cfg
    act := cfg
    numVirtAnt := 1
    chirpsPerFrame := 16
    win1dInfo := ⟨16, 8, true, 32768⟩
    win2dInfo := ⟨16, 8, true, 32768⟩ }

/-- The block running. -/
def running : State := { ready with mode := .running }

/-- The next state of an outcome. -/
def next (o : Host.Outcome State Fault Refusal) : State :=
  match o with
  | .next t => t
  | .fault _ | .refused _ => State.reset

/-- `ARG` set. -/
def args (s : State) (a0 a1 a2 a3 a4 : Word) : State := { s with arg := #v[a0, a1, a2, a3, a4, 0] }

/-- 16-bit values as memory from an address up. -/
def u16Mem (a : Nat) (l : List Nat) : Memory := (u16Bytes l).zipIdx.map fun x => (a + x.2, x.1)

/-- A configured idle channel of two elements of four bytes, as R205's example has it. -/
def chan : Chan := ⟨⟨0x100, 0x40000000, 4, 2, 8, 4⟩, false, true, true, true, true, .idle⟩

/-- The block with channel 11 so configured. -/
def withChan : State := ready.setChan 11 chan

/-- The block with a transfer on channel 11 in flight. -/
def inFlight : State := ready.setChan 11 { chan with xfer := .busy chan.desc }

/-- The block with a completion on channel 11. -/
def completed : State := ready.setChan 11 { chan with xfer := .done chan.desc }

/-! ## One step of each command -/

/-- The decoded word runs as the first command after reset. -/
theorem test_fetch : (next (step (State.reset.withFetchWord 32 0x00000000))).irqStatus = 4 := by decide +kernel

/-- R137's example: only `CMD_DONE` changes. -/
theorem test_nop : exec .nop State.reset = .next { State.reset with irqStatus := 4 } := rfl

/-- R139's example: `NUM_VIRT_ANT`, `CHIRPS_PER_FRAME`, the mode. -/
theorem test_cfgCommit :
    let t := next (exec .cfgCommit { State.reset with stg := cfg })
    t.numVirtAnt = 1 ∧ t.chirpsPerFrame = 16 ∧ t.mode = .configured := by decide +kernel

/-- R139's failing example: `FAULT = 0x00000501`. -/
theorem test_cfgCommit_check5 :
    let t := next (exec .cfgCommit { State.reset with stg := { cfg with numDop := 24 } })
    t.faultReg = 0x00000501 ∧ t.mode = .halted := by decide +kernel

/-- R135's example. -/
theorem test_runStart : (next (exec .runStart ready)).mode = .running := by decide +kernel

/-- R135: the lower failing table is named. -/
theorem test_runStart_window :
    (next (exec .runStart { ready with win1dInfo := ⟨16, 7, true, 32768⟩ })).faultReg = 0x00000004 := by decide +kernel

/-- R136's example. -/
theorem test_runStop : (next (exec .runStop { running with chirpToken := true })).mode = .configured
    ∧ (next (exec .runStop { running with chirpToken := true })).chirpToken = false := by decide +kernel

/-- R151's example. -/
theorem test_bmpReset :
    (next (exec .bmpReset (next (exec (.bmpSet 3) ready)))).bmpWord = Vector.replicate 32 0 := by decide +kernel

/-- R152's example with `Nd = 64`. -/
theorem test_bmpSet :
    tabGet (next (exec (.bmpSet 37) { ready with act := { cfg with numDop := 64 } })).bmpWord 1 0 = 0x20 := by
  decide +kernel

/-- R152: an index that is no bin. -/
theorem test_bmpSet_index : (next (exec (.bmpSet 16) ready)).faultReg = 0x00001031 := by decide +kernel

/-- R153's example. -/
theorem test_bmpTest :
    let s := next (exec (.bmpSet 5) { ready with res0 := 7 })
    (next (exec (.bmpTest 5) s)).res0 = 1 ∧ (next (exec (.bmpTest 4) s)).res0 = 0 := by decide +kernel

/-- R154's example, twice and once more. -/
theorem test_bmpNext :
    let s := afterAll [.bmpReset, .bmpSet 5, .bmpSet 2] ready
    (afterAll [.bmpNext] s).res0 = 2 ∧ (afterAll [.bmpNext, .bmpNext] s).bmpCursor = 6
      ∧ (afterAll [.bmpNext, .bmpNext, .bmpNext] s).faultReg = 0x00000630 := by decide +kernel

/-- R162's example. -/
theorem test_winGen :
    let t := next (exec (.winGen .win1d .blackman) (args State.reset 16 8 32768 0 0))
    (List.range 9).map (fun n => (tabGet t.win1d n 7).toNat) = [0, 549, 2526, 6579, 12911, 20644, 27828, 32183, 0]
      ∧ t.win1dInfo.infoReg = 0x80080010 ∧ t.win1dInfo.oneQ = 0x8000 := by decide +kernel

/-- R162 check 3. -/
theorem test_winGen_operand :
    (next (exec (.winGen .win1d .hanning) (args State.reset 16 17 32768 0 0))).faultReg = 0x00000143 := by decide +kernel

/-- R163's printed coefficients. -/
theorem test_winCoef_hanning :
    (List.range 8).map (fun n => winCoef .hanning 16 n 32768) = [0, 1416, 5421, 11321, 18097, 24576, 29639, 32410]
      ∧ (List.range 8).map (fun n => winCoef .hanning 16 n 524288)
        = [0, 22664, 86735, 181137, 289546, 393216, 474223, 518560] := by decide +kernel

/-- R170's and R171's printed twiddles. -/
theorem test_twiddles :
    (List.range 4).map (tw16 16) = [⟨32767, 0⟩, ⟨30273, -12539⟩, ⟨23170, -23170⟩, ⟨12539, -30273⟩]
      ∧ (List.range 3).map (tw32 16) = [⟨2147483647, 0⟩, ⟨1984016188, -821806413⟩, ⟨1518500249, -1518500249⟩]
      ∧ tw32 32 29 = ⟨1785567395, 1193077990⟩ := by decide +kernel

/-- R174's examples. -/
theorem test_fft1d_engine :
    fft16 16 (List.replicate 16 ⟨1000, 0⟩) = ⟨8000, 0⟩ :: List.replicate 15 ⟨0, 0⟩
      ∧ fft16 16 (⟨1000, 0⟩ :: List.replicate 15 ⟨0, 0⟩) = List.replicate 16 ⟨500, 0⟩ := by decide +kernel

/-- FFT1D without a usable table (R176). -/
theorem test_fft1d_window :
    (next (exec .fft1d { ready with win1dInfo := WinInfo.zero })).faultReg = 0x00000004 := by decide +kernel

/-- R175's example. -/
theorem test_fft2d_engine :
    fft32 16 (List.replicate 16 ⟨1000, -2000⟩) = ⟨16000, -32000⟩ :: List.replicate 15 ⟨0, 0⟩ := by decide +kernel

/-- FFT2D at a misaligned source (R177). -/
theorem test_fft2d_align : (next (exec .fft2d (args ready 2 0 0 0 0))).faultReg = 0x00000251 := by decide +kernel

/-- FFT3D beyond the end of tier A (R178, R86). -/
theorem test_fft3d_bounds : (next (exec .fft3d (args ready 0x3FFFFFFC 0 0 0 0))).faultReg = 0xFFFFFC51
    ∧ (next (exec .fft3d { args ready 0 0 0 0 0 with spaces := ⟨0, 0, 0, 0⟩ })).faultReg = 0x00000050 := by decide +kernel

/-- R205's example. -/
theorem test_dmaCfg :
    let c := (next (exec (.dmaCfg 11 false false false true) (args ready 0x100 0x40000000 0x00020004 8 4))).chan 11
    c.readReg 2 = 0x00020004 ∧ c.readReg 5 = 0xE ∧ c.readReg 6 = 1 := by decide +kernel

/-- R206's example. -/
theorem test_dmaStart : ((next (exec (.dmaStart 11) withChan)).chan 11).readReg 6 = 3 := by decide +kernel

/-- R206's example after the perform step: the bytes, the flags, interrupt bit 27. -/
theorem test_perform :
    let s := { inFlight with mem := [(0x100, 1), (0x101, 2), (0x102, 3), (0x103, 4), (0x108, 5), (0x109, 6), (0x10A, 7), (0x10B, 8)] }
    ((s.perform 11).mem.drop 8).map Prod.snd = [1, 2, 3, 4, 5, 6, 7, 8] ∧ ((s.perform 11).chan 11).readReg 6 = 5
      ∧ (s.perform 11).irqStatus = 0x08000000 := by decide +kernel

/-- R208's example. -/
theorem test_dmaRetrig :
    let c := (next (exec (.dmaRetrig 11) (args withChan 0x200 0x40000010 0 0 0))).chan 11
    c.desc.src = 0x200 ∧ c.desc.dst = 0x40000010 ∧ c.xfer.isBusy = true := by decide +kernel

/-- R209's example: the completion is consumed; a second wait never returns. -/
theorem test_dmaWait :
    let t := next (exec (.dmaWait 11) completed)
    (t.chan 11).readReg 6 = 1 ∧ t.seq = .idle ∧ (next (exec (.dmaWait 11) t)).seq = .wait 11 .complete := by decide +kernel

/-- R253 (f): the single peak, and its noise values. -/
theorem test_cfar_peak :
    let x := (List.replicate 16 100).set 5 400
    cfar ⟨0, false, 2, 1, 2, 50⟩ x = [5] ∧ cfar ⟨2, true, 2, 1, 2, 50⟩ x = [5]
      ∧ (List.range 5).map (cfarNoise ⟨0, false, 2, 1, 2, 50⟩ x) = [100, 100, 250, 175, 100] := by decide +kernel

/-- R253 (g): the clutter edge in the three modes. -/
theorem test_cfar_edge :
    let x := (List.replicate 10 100).set 5 400 ++ List.replicate 6 300
    cfar ⟨0, false, 2, 1, 2, 50⟩ x = [5, 10, 11] ∧ cfar ⟨1, false, 2, 1, 2, 50⟩ x = [5]
      ∧ cfar ⟨2, false, 2, 1, 2, 50⟩ x = [5, 10, 11, 12] := by decide +kernel

/-- R255's example. -/
theorem test_cfarDop :
    let t := next (exec .cfarDop
      { ready with act := { cfg with cfarDop := ⟨0, false, 2, 1, 2, 50⟩ }, mem := u16Mem 0 ((List.replicate 16 100).set 5 400) })
    t.res0 = 1 ∧ tabGet t.bmpWord 0 0 = 0x20 := by decide +kernel

/-- R256's example. -/
theorem test_cfarRng :
    let t := next (exec (.cfarRng 7)
      { ready with act := { cfg with cfarRng := ⟨0, false, 2, 1, 2, 50⟩ }, mem := u16Mem 0 ((List.replicate 16 100).set 5 400) })
    tabGet t.rawObj 0 default = ⟨5, 7, 400⟩ ∧ t.numRawObj = 1 ∧ t.res0 = 1 ∧ t.res1 = 0 := by decide +kernel

/-- R275's raw list, with no detection matrix: scheme 1. -/
def grouping (enRange enDoppler : Bool) : State :=
  { ready with
    act := { cfg with pkScheme := true, pkRange := enRange, pkDoppler := enDoppler }
    numRawObj := 5
    rawObj := tabFill State.reset.rawObj
      (fun i => listGet [⟨10, 0, 310⟩, ⟨5, 3, 400⟩, ⟨6, 3, 350⟩, ⟨5, 4, 380⟩, ⟨10, 15, 300⟩] i default) 5 }

/-- The cells of the objects in use. -/
def cells (s : State) : List (Nat × Nat) :=
  (s.objOut.toList.take s.numObjOut.toNat).map fun o => (o.range.toNat, o.doppler.toNat)

/-- R275, scheme 1, the rows with the range direction on. -/
theorem test_pkgrp_range :
    cells (next (exec .pkgrpRun (grouping true true))) = [(10, 0), (5, 3)]
      ∧ cells (next (exec .pkgrpRun (grouping true false))) = [(10, 0), (5, 3), (5, 4), (10, 15)] := by decide +kernel

/-- R275, scheme 1, the rows with the range direction off. -/
theorem test_pkgrp_doppler :
    cells (next (exec .pkgrpRun (grouping false true))) = [(10, 0), (5, 3), (6, 3)]
      ∧ (next (exec .pkgrpRun (grouping false false))).res0 = 5 := by decide +kernel

/-- The last sentence of R306: `Nv = 1` writes `X = 0`, `Y = 640`. -/
theorem test_angleObj :
    let s := { ready with numObjOut := 1, objOut := tabSet State.reset.objOut 0 ⟨50, 0, 900, 1, 1, 1⟩ }
    tabGet (next (exec (.angleObj 0) s)).objOut 0 default = ⟨50, 0, 900, 0, 640, 0⟩ := by decide +kernel

/-- R293's examples. -/
theorem test_phaseComp :
    phaseComp 16 3 ⟨1000000, 0⟩ = ⟨831470, -555570⟩ ∧ phaseComp 16 13 ⟨1000000, 0⟩ = ⟨831470, 555570⟩
      ∧ phaseComp 16 8 ⟨1000000, -500000⟩ = ⟨500000, 1000000⟩ := by decide +kernel

/-- R307 (a): the two peaks; R304: the coordinates. -/
theorem test_xyEst :
    let P := [(14, 100000), (15, 400000), (16, 1000000), (17, 500000), (18, 90000), (40, 300000), (41, 200000)].foldl
      (fun P kv => P.set kv.1 kv.2) (List.replicate 64 10)
    xyEst ⟨52429, 8, true, 0x2000⟩ P 50 = ((320, 554), some (-480, 423)) ∧ mainLobe P 16 = (13, 19, 6)
      ∧ xyEst ⟨52429, 8, true, 0x2CCC⟩ P 50 = ((320, 554), none)
      ∧ packXy (320, 554) = 0x022A0140 ∧ packSecond (some (-480, 423)) = 0x81A7FE20 := by decide +kernel

/-- R307 (b) and (c). -/
theorem test_xyEst_edges :
    let P := [(0, 100), (1, 60), (63, 50), (62, 70)].foldl (fun P kv => P.set kv.1 kv.2) (List.replicate 64 5)
    xyEst ⟨52429, 8, true, 0x4000⟩ P 10 = ((0, 128), some (-8, 127))
      ∧ xyEst ⟨52429, 8, true, 1⟩ (List.replicate 64 7) 10 = ((0, 128), some (4, 127)) := by decide +kernel

/-- R357: the event sets the token; a second one is `TIMING_CHIRP` with the chirp count. -/
theorem test_chirp_event :
    running.chirpEvent.chirpToken = true
      ∧ ({ running with chirpToken := true, chirpCount := 5 } : State).chirpEvent.faultReg = 0x00000510 := by decide +kernel

/-- CHIRP.PROC starts the sequence (R231). -/
theorem test_chirpProc : (next (exec .chirpProc running)).seq = .pos (.chirp .s1 true) := by decide +kernel

/-- R239's example: chirps 1, 2, 3 and 32 with `Nd = 16`, `Ntx = 2`. -/
theorem test_counters :
    let s := { running with act := { cfg with numTx := 2 } }
    let count (n : Nat) := ((chained n s).1.chirpCount.toNat, (chained n s).1.txAntCount.toNat, (chained n s).1.dopBinCount.toNat)
    [1, 2, 3, 31, 32].map count = [(1, 1, 0), (2, 0, 1), (3, 1, 1), (31, 1, 15), (0, 0, 0)] ∧ (chained 32 s).2 = true := by
  decide +kernel

/-- R238's example: the mean of a sum `(21, -7)` with `k = 1`. -/
theorem test_dc_mean : (C32.mean ⟨21, -7⟩ 1).val = ⟨11, -3⟩ ∧ dcSubtract ⟨103, 19⟩ ⟨100, 20⟩ = ⟨3, -1⟩ := by decide +kernel

/-- FRAME.PROC starts the sequence with its token (R321). -/
theorem test_frameProc :
    (next (exec .frameProc ready)).seq = .pos (.frame .s1 true) ∧ (next (exec .frameProc ready)).frameToken = true := by
  decide +kernel

/-- R336's object: the sixteen bytes of the payload and the first descriptor. -/
theorem test_outAsm :
    let t := next (exec .outAsm
      { ready with logAvail := true, numObjOut := 1, objOut := tabSet State.reset.objOut 0 ⟨4, 3, 7936, 0, 51, 0⟩ })
    t.mem.map Prod.snd = [1, 0, 8, 0, 4, 0, 3, 0, 0, 0x1F, 0, 0, 0x33, 0, 0, 0]
      ∧ tabGet t.outDesc 0 default = ⟨1, 16, 0x80000900⟩ ∧ t.numOutDesc = 1 ∧ t.irqStatus = 5 := by decide +kernel

/-- R336's dropped frame. -/
theorem test_outAsm_dropped :
    let t := next (exec .outAsm ready)
    t.droppedFrames = 1 ∧ t.numOutDesc = 0 ∧ t.irqStatus = 0xC ∧ t.mem = [] := by decide +kernel

/-- R179's and R180's examples. -/
theorem test_logMag :
    [1, 2, 3, 5, 1000, 65535, 2 ^ 31].map log2q8 = [0, 256, 384, 576, 2548, 4095, 7936]
      ∧ logMag ⟨16000, -32000⟩ = 3864 ∧ logMag ⟨-32768, -32768⟩ = 3968 := by decide +kernel

/-- R183 (d). -/
theorem test_rounding : [(3, 1), (-3, 1), (1, 1), (-1, 1)].map (fun x : Int × Nat => rndShr x.1 x.2) = [2, -1, 1, 0] := by
  decide

/-- R21: a reserved bit does not stick; R33: writing 1 clears. -/
theorem test_registers :
    (State.reset.busWrite 0x040 0xFFFFFFFF).readReg 0x040 = 7
      ∧ (({ State.reset with irqStatus := 5 } : State).busWrite 0x030 4).irqStatus = 1
      ∧ State.reset.readReg 0x054 = 64 := by decide +kernel

/-! ## Witnesses: for each statement with hypotheses, states and operands that meet them, at the boundaries of its clauses -/

/-- The outcome is a next state. -/
def isNext (o : Host.Outcome State Fault Refusal) : Bool :=
  match o with
  | .next _ => true
  | .fault _ | .refused _ => false

theorem next_of {o : Host.Outcome State Fault Refusal} (h : isNext o = true) : o = .next (next o) := by
  cases o <;> simp_all [isNext, next]

/-- The environment names one agent next. -/
def will (a : Action) (s : State) : State := { s with agenda := [a] }

/-- An accepted command word waits, and the sequencer is next. -/
def cmd (w : Word) (s : State) : State := { s with seq := .cmd w, agenda := [.seq] }

/-- The block halted. -/
def halted : State := { ready with mode := .halted, seq := .halt, fault := ⟨0x30, 5⟩ }

/-- A check of R133 evaluated. -/
def checkDec (c : Cfg) : (n : Nat) → Decidable (CheckHolds c n)
  | 0 => .isTrue trivial
  | 1 | 2 | 3 | 4 | 5 | 6 | 7 | 8 | 9 | 10 | 11 => by simp only [CheckHolds]; infer_instance
  | _ + 12 => .isTrue trivial

/-- Check `n` of R133 holds. -/
def passes (c : Cfg) (n : Nat) : Bool := @decide (CheckHolds c n) (checkDec c n)

theorem passes_of {c : Cfg} {k : Nat} (h : (List.range k).all (passes c) = true) : ∀ n, n < k → CheckHolds c n :=
  fun n hn => @of_decide_eq_true _ (checkDec c n) (List.all_eq_true.mp h n (List.mem_range.mpr hn))

theorem fails_of {c : Cfg} {n : Nat} (h : passes c n = false) : ¬ CheckHolds c n :=
  @of_decide_eq_false _ (checkDec c n) h

/-- A configuration whose first failing check is `n`. -/
def bad (n : Nat) : Cfg :=
  match n with
  | 1 => { cfg with numRx := 5 }
  | 2 => { cfg with numTx := 3 }
  | 3 => { cfg with numAdc := 1040 }
  | 4 => { cfg with numRange := 32 }
  | 5 => { cfg with numDop := 24 }
  | 6 => { cfg with cfarDop := { cfg.cfarDop with avgMode := 3 } }
  | 7 => { cfg with cfarRng := { cfg.cfarRng with avgMode := 3 } }
  | 8 => { cfg with cfarDop := { cfg.cfarDop with winLen := 0 } }
  | 9 => { cfg with cfarRng := { cfg.cfarRng with cyclic := true } }
  | 10 => { cfg with pkMax := 16 }
  | _ => { cfg with dcEnable := true, dcAvg := 3 }

/-- `cfg` with buffer `k` placed at `a`. -/
def placed (k : Nat) (a : Word) : Cfg := { cfg with bufBase := tabSet cfg.bufBase k a }

/-- The configuration of two transmit antennas and calibration over one chirp of bins -1 to 1. -/
def cfgDc : Cfg := { cfg with dcEnable := true, dcAvg := 1, dcNeg := 0xFFFF, dcPos := 1 }

theorem cfg_legal : LegalConfig cfg State.reset.spaces := ⟨passes_of (by decide +kernel), by decide +kernel⟩

theorem cfg_geometry : LegalGeometry cfg := passes_of (by decide +kernel)

theorem test_witness_DecodeOfEncode :
    (Instr.dmaCfg 15 true true true true).wellFormed = true ∧ (Instr.xyEst 65535).wellFormed = true
      ∧ (Instr.winGen .win2d .notAWindow).wellFormed = true := by decide

theorem test_witness_AcceptedWords : decode 0x30FF0000 = .ok (.dmaCfg 15 true true true true) := by decide

theorem test_witness_StepRuns :
    decode 0x00000000 = .ok .nop ∧ (cmd 0 ready).agenda = [.seq] ∧ (cmd 0 ready).seq = .cmd 0 := by decide +kernel

/-- A word accepted or not, and an operand with and without a record of earlier values. -/
theorem test_witness_CommandPortAndOperands :
    let s := next (act (.regWrite 0x024 7) (cmd 0 ready))
    tabGet s.argPast 5 [] = [0] ∧ tabGet s.arg 5 0 = 7 ∧ tabGet s.argPast 4 [] = [] ∧ (ready.mode ≠ .halted ∧ ready.seq.busy = false) ∧ (ready.mode ≠ .halted ∧ (cmd 0 ready).seq.busy = true)
      ∧ halted.mode = .halted ∧ decode 0x00000000 = .ok .nop
      ∧ decode 0x04000000 = .error .unlistedOpcode := by decide +kernel

theorem test_witness_RefusedCommandsHalt :
    (cmd 0x04000000 ready).seq = .cmd 0x04000000 ∧ decode 0x04000000 = .error .unlistedOpcode
      ∧ decode 0x00000001 = .error .reservedBitSet
      ∧ Instr.fft1d.opcode ∉ modeTable State.reset.mode ∧ Instr.chirpProc.opcode ∉ modeTable ready.mode
      ∧ Instr.frameProc.opcode ∉ modeTable running.mode ∧ Instr.nop.opcode ∉ modeTable halted.mode := by decide +kernel

/-- A step that changes the mode, by each way R131 names. -/
theorem test_witness_ModeChanges :
    ∀ s ∈ [will .reset halted, cmd 0x00000001 ready, cmd 0x01000000 { State.reset with stg := cfg },
        cmd 0x02000000 ready, cmd 0x03000000 running, { will .seq running with seq := .pos (.stop 12) }],
      ∃ t, step s = .next t ∧ t.mode ≠ s.mode := by
  intro s hs
  refine ⟨next (step s), next_of ?_, ?_⟩ <;> revert s <;> decide +kernel

theorem test_witness_OnlyReset :
    ∀ a ∈ [Action.seq, .dma 11, .chirp, .regWrite 0x00C 0, .regWrite 0x030 2, .memWrite 0 [1]],
      halted.mode = .halted ∧ halted.seq = .halt ∧ (∃ t, step (will a halted) = .next t)
        ∧ (will a halted).agenda.head? ≠ some .reset := by
  intro a ha
  refine ⟨rfl, rfl, ⟨next (step (will a halted)), next_of ?_⟩, ?_⟩ <;> revert a <;> decide +kernel

theorem test_witness_StoreInv :
    let s := { completed with mem := u16Mem 0 [1, 2], irqStatus := 0x0FFF000F, numRawObj := 200, numObjOut := 100 }
    StoreInv s ∧ ∃ t, step (will (.memWrite 1 [7, 8, 9, 10]) s) = .next t := by
  refine ⟨by decide +kernel, next (step _), next_of (by decide +kernel)⟩

/-- A block with no position in its sequencer keeps the links of control by its mode and fault alone. -/
theorem control_of {s : State} (h1 : s.mode = .halted ↔ s.seq = .halt) (h2 : s.mode = .halted ↔ s.fault.code ≠ 0)
    (h3 : (match s.seq with | .pos _ | .wait _ _ => false | _ => true) = true) : ControlInv s := by
  refine ⟨h1, h2, fun q hq => ?_, fun p q hq => ?_⟩ <;> simp [hq] at h3

theorem test_witness_ControlInv :
    ControlInv halted ∧ ControlInv (cmd 0x04000000 running)
      ∧ ControlInv { will .seq running with seq := .pos (.stop 3) }
      ∧ (∃ t, step (cmd 0x04000000 running) = .next t)
      ∧ ∃ t, step { will .seq running with seq := .pos (.stop 3) } = .next t := by
  refine ⟨control_of (by decide +kernel) (by decide +kernel) rfl, control_of (by decide +kernel) (by decide +kernel) rfl,
    ⟨by decide +kernel, by decide +kernel, fun q hq => ?_, fun p q hq => by simp at hq⟩,
    ⟨next (step _), next_of (by decide +kernel)⟩, ⟨next (step _), next_of (by decide +kernel)⟩⟩
  obtain rfl : Pos.stop 3 = q := by simpa using hq
  rfl

/-- The last chirp but one of a frame of a running block. -/
def lateChirp : State :=
  { running with
    act := { cfg with numTx := 1 }
    numVirtAnt := 1, chirpsPerFrame := 16, chirpCount := 15, dopBinCount := 15 }

theorem test_witness_RunInv :
    RunInv (cmd 0x03000000 lateChirp) ∧ (∃ t, step (cmd 0x03000000 lateChirp) = .next t)
      ∧ RunInv (cmd 0x01000000 { State.reset with stg := cfg })
      ∧ ∃ t, step (cmd 0x01000000 { State.reset with stg := cfg }) = .next t := by
  refine ⟨⟨control_of (by decide +kernel) (by decide +kernel) rfl, fun _ => ⟨cfg_legal, by decide +kernel⟩⟩,
    ⟨next (step _), next_of (by decide +kernel)⟩,
    ⟨control_of (by decide +kernel) (by decide +kernel) rfl, fun h => absurd h (by decide +kernel)⟩,
    ⟨next (step _), next_of (by decide +kernel)⟩⟩

theorem test_witness_ConfigurationHasOneWriter :
    let commit := cmd 0x01000000 { State.reset with stg := cfg }
    let gen1 := cmd 0x20000000 (args ready 16 8 1 0 0)
    let gen2 := cmd 0x20010000 (args ready 16 8 1 0 0)
    let write := will (.regWrite 0x040 4) ready
    (∃ t, step commit = .next t ∧ t.act ≠ commit.act) ∧ (∃ t, step gen1 = .next t ∧ t.win1dInfo ≠ gen1.win1dInfo)
      ∧ (∃ t, step gen2 = .next t ∧ t.win2dInfo ≠ gen2.win2dInfo) ∧ ∃ t, step write = .next t ∧ t.stg ≠ write.stg := by
  refine ⟨⟨next (step _), next_of ?_, ?_⟩, ⟨next (step _), next_of ?_, ?_⟩, ⟨next (step _), next_of ?_, ?_⟩,
    ⟨next (step _), next_of ?_, ?_⟩⟩ <;> decide +kernel

theorem test_witness_CommandsWriteOnlyTheirState :
    (∃ t, exec (.bmpSet 3) ready = .next t) ∧ (∃ t, exec .outAsm ready = .next t) ∧ (∃ t, exec .fft1d ready = .next t)
      ∧ (∃ t, exec .fft2d ready = .next t) ∧ (∃ t, exec .fft3d running = .next t) ∧ 1 ≤ ready.nr ∧ 1 ≤ ready.nd := by
  refine ⟨⟨next (exec _ _), next_of ?_⟩, ⟨next (exec _ _), next_of ?_⟩, ⟨next (exec _ _), next_of ?_⟩,
    ⟨next (exec _ _), next_of ?_⟩, ⟨next (exec _ _), next_of ?_⟩, ?_, ?_⟩ <;> decide +kernel

theorem test_witness_Nop : ready.mode ≠ .halted ∧ halted.mode = .halted ∧ (0x00FFFFFF : Word).toNat / 2 ^ 24 = 0 := by
  decide +kernel

theorem test_witness_CommitChecks_busy :
    (ready.setChan 0 { chan with xfer := .busy chan.desc }).mode = .configured
      ∧ ((ready.setChan 0 { chan with xfer := .busy chan.desc }).chan 0).xfer.isBusy = true
      ∧ (inFlight.chan 11).xfer.isBusy = true ∧ ∀ q, q < 11 → (inFlight.chan q).xfer.isBusy = false := by decide +kernel

theorem test_witness_CommitChecks :
    (∀ p, p < 12 → (ready.chan p).xfer.isBusy = false)
      ∧ ∀ n, 1 ≤ n → n ≤ 11 → (∀ m, m < n → CheckHolds (bad n) m) ∧ ¬ CheckHolds (bad n) n := by
  refine ⟨by decide +kernel, fun n h1 h2 => ?_⟩
  have h : ∀ n, n < 12 → 1 ≤ n → ((List.range n).all (passes (bad n)) && !passes (bad n) n) = true := by decide +kernel
  have := h n (by omega) h1
  simp only [Bool.and_eq_true, Bool.not_eq_true'] at this
  exact ⟨passes_of this.1, fails_of this.2⟩

/-- One placement for each layout check: a misaligned first and last buffer, a buffer in the ADC space, one past its tier's
end, two that share a byte, an ADC space too small. -/
theorem test_witness_CommitLayout :
    (∀ c ∈ [placed 0 0x80000004, placed 17 0x80000DC4, placed 17 0xC0000000, placed 17 0xBFFFFFE8, placed 17 0x80000DB8],
        ∀ n, n < 12 → CheckHolds c n)
      ∧ ¬ BufferAligned (placed 0 0x80000004) 0
      ∧ ((∀ j, j < 17 → BufferAligned (placed 17 0x80000DC4) j) ∧ ¬ BufferAligned (placed 17 0x80000DC4) 17)
      ∧ ¬ BufferAligned (placed 17 0xC0000000) 17
      ∧ ((∀ j, j < 18 → BufferAligned (placed 17 0xBFFFFFE8) j)
        ∧ (∀ j, j < 17 → BufferFits (placed 17 0xBFFFFFE8) State.reset.spaces j)
        ∧ ¬ BufferFits (placed 17 0xBFFFFFE8) State.reset.spaces 17)
      ∧ ((∀ j, j < 18 → BufferAligned (placed 17 0x80000DB0) j ∧ BufferFits (placed 17 0x80000DB0) State.reset.spaces j)
        ∧ (∀ i, i < 16 → ∀ l, l < 18 → i < l → PairOk (placed 17 0x80000DB0) i l)
        ∧ ¬ PairOk (placed 17 0x80000DB0) 16 17)
      ∧ ((∀ i, i < 18 → ∀ l, l < 18 → i < l → PairOk cfg i l) ∧ AdcFits cfg ⟨0, 0, 1000, 8⟩
        ∧ ¬ AdcFits cfg ⟨0, 0, 1000, 7⟩ ∧ ∀ j, j < 18 → BufferFits cfg ⟨0, 0, 1000, 7⟩ j) := by
  refine ⟨fun c hc => passes_of ?_, ?_, ⟨?_, ?_⟩, ?_, ⟨?_, ?_, ?_⟩, ⟨?_, ?_, ?_⟩, ?_, ?_, ?_, ?_⟩
  · revert c; decide +kernel
  all_goals decide +kernel

theorem test_witness_CommitLatches :
    LegalConfig cfg State.reset.spaces ∧ State.reset.mode = .unconfigured
      ∧ (∀ p, p < 12 → (State.reset.chan p).xfer.isBusy = false) ∧ LegalConfig cfgDc State.reset.spaces :=
  ⟨cfg_legal, rfl, by decide +kernel, passes_of (by decide +kernel), by decide +kernel⟩

theorem test_witness_RunStart :
    ready.mode = .configured ∧ ({ ready with win1dInfo := WinInfo.zero } : State).winOk1D = false
      ∧ (ready.winOk1D = true ∧ ({ ready with win2dInfo := WinInfo.zero } : State).winOk2D = false)
      ∧ ready.winOk2D = true
      ∧ ((ready.setChan 0 { chan with xfer := .done chan.desc }).chan 0).xfer ≠ .idle
      ∧ ((completed.chan 11).xfer ≠ .idle ∧ ∀ q, q < 11 → (completed.chan q).xfer = .idle) ∧ AllIdle ready := by
  decide +kernel

theorem test_witness_RunStop :
    (running.mode = .running ∧ ∀ p, 0 ≤ p → p < 12 → (running.chan p).xfer.isBusy = false)
      ∧ ((inFlight.chan 11).xfer.isBusy = true ∧ ∀ q, 11 ≤ q → q < 11 → (inFlight.chan q).xfer.isBusy = false)
      ∧ ({ inFlight with seq := .pos (.stop 12) } : State).seq = .pos (.stop 12)
      ∧ ({ inFlight with seq := .pos (.stop 0) } : State).seq = .pos (.stop 0)
      ∧ running.chirpCount = 0 ∧ lateChirp.chirpCount ≠ 0 := by decide +kernel

theorem test_witness_BitmapResetSetAndTest :
    ready.mode = .configured ∧ ready.nd ≤ 1024 ∧ 15 < ready.nd ∧ ready.nd ≤ 16 ∧ running.mode ≠ .configured := by
  decide +kernel

/-- A bitmap with its cursor on a set bit, below one, past them and at its end. -/
theorem test_witness_BmpNext :
    let s := { ready with bmpWord := tabSet ready.bmpWord 0 0x00000021 }
    (s.bmpBit 0 = true) ∧ (s.bmpBit 5 = true ∧ ∀ j, 1 ≤ j → j < 5 → s.bmpBit j = false)
      ∧ (∀ i, i < 32 → 6 ≤ i → s.bmpBit i = false) ∧ (∀ i, i < 32 → 32 ≤ i → s.bmpBit i = false)
      ∧ s.mode = .configured ∧ 32 * max (s.nd / 32) 1 = 32 ∧ running.mode ≠ .configured := by decide +kernel

theorem test_witness_BitmapIterates :
    ready.mode = .configured ∧ LegalGeometry ready.act ∧ [15, 0, 7].Nodup ∧ ∀ i ∈ [15, 0, 7], i < ready.nd :=
  ⟨rfl, cfg_geometry, by decide, by decide +kernel⟩

/-- Operands on both sides of each bound of R162. -/
theorem test_witness_WinGen :
    let ok (a0 a1 a2 m : Nat) : Bool × Bool × Bool :=
      (decide (2 ≤ a0 ∧ a0 ≤ 1024), decide (1 ≤ a1 ∧ a1 ≤ a0 ∧ a1 ≤ 512), decide (1 ≤ a2 ∧ a2 ≤ m))
    let of (s : State) (m : Nat) := ok (s.operand 0).toNat (s.operand 1).toNat (s.operand 2).toNat m
    of (args ready 1 1 1 0 0) (2 ^ 15) = (false, true, true) ∧ of (args ready 1025 1 1 0 0) (2 ^ 15) = (false, true, true)
      ∧ of (args ready 2 3 1 0 0) (2 ^ 15) = (true, false, true) ∧ of (args ready 2 0 1 0 0) (2 ^ 15) = (true, false, true)
      ∧ of (args ready 1024 513 1 0 0) (2 ^ 31) = (true, false, true)
      ∧ of (args ready 2 1 0 0 0) (2 ^ 15) = (true, true, false)
      ∧ of (args ready 2 1 32769 0 0) (2 ^ 15) = (true, true, false)
      ∧ of (args ready 2 1 0x80000001 0 0) (2 ^ 31) = (true, true, false)
      ∧ of (args ready 2 2 32768 0 0) (2 ^ 15) = (true, true, true)
      ∧ of (args ready 1024 512 0x80000000 0 0) (2 ^ 31) = (true, true, true)
      ∧ WinKind.hanning ≠ .notAWindow ∧ ready.mode = .configured ∧ State.reset.mode = .unconfigured := by decide +kernel

/-- The ends of the relation to the cosines, on the least and the greatest window it speaks of. -/
theorem test_witness_WinCoef :
    (1 ≤ 1 ∧ 1 ≤ 9 ∧ 2 ≤ 2 ^ 1 ∧ 1 ≤ 2 ^ 31) ∧ (9 ≤ 9 ∧ 512 ≤ 2 ^ 9) ∧ tw32 512 256 = ⟨-2147483647, 0⟩
      ∧ winCoef .hanning 513 256 (2 ^ 31) = 2147483647 ∧ winCoef .blackman 513 512 (2 ^ 31) = 0 := by decide +kernel

theorem test_witness_HalfTable :
    (2 ≤ 2 ∧ 1 < 2 ∧ 2 ≤ 2 * 1 ∧ 1 ≤ 2) ∧ (7 < 8 ∧ 16 ≤ 2 * 8) ∧ (8 ≤ 8 ∧ 8 < 16 ∧ 8 ≤ 16) ∧ (17 ≤ 2 * 9 ∧ 16 ≤ 16) := by decide

theorem test_witness_Fft1d :
    let s := args ready 0x3FFFFFC0 0xBFFFFFC0 0 0 0
    (s.mode = .configured ∧ s.winOk1D = true ∧ Readable s (s.operand 0).toNat (4 * s.ns) 4
      ∧ Writable s (s.operand 1).toNat (4 * s.nr) 4)
      ∧ ({ s with win1dInfo := ⟨16, 7, true, 32768⟩ } : State).winOk1D = false := by decide +kernel

/-- The block with `n` times 8 bytes in each space. -/
def small (n : Fin (2 ^ 27 + 1)) (a0 a1 : Word) : State := { args ready a0 a1 0 0 0 with spaces := ⟨n, n, n, n⟩ }

/-- Misaligned addresses, and blocks whose first or last element is outside its space. -/
theorem test_witness_Fft1d_outside :
    2 % 4 ≠ 0 ∧ FirstOutside (small 16 0x44 0) false 0x44 4 16 15 ∧ FirstOutside (small 16 0x80 0) false 0x80 4 16 0
      ∧ (let s := small 16 0x40 0x40000044
        Readable s 0x40 (4 * s.ns) 4 ∧ FirstOutside s true 0x40000044 4 16 15 ∧ MayWrite s 0x40000044 60
          ∧ FirstOutside s true 0xC0000000 4 16 0) := by decide +kernel

theorem test_witness_Fft2d_outside :
    let s := small 16 0x40 0x40000008
    Readable s 0x40 (4 * s.nd) 4 ∧ FirstOutside s true 0x40000008 8 16 15 ∧ MayWrite s 0x40000008 120 ∧ 4 % 8 ≠ 0
      ∧ FirstOutside s false 0x44 4 16 15 := by decide +kernel

theorem test_witness_Fft3d_outside :
    let s := small 64 0 0x40000008
    Readable s 0 512 8 ∧ FirstOutside s true 0x40000008 8 64 63 ∧ MayWrite s 0x40000008 504
      ∧ FirstOutside s false 8 8 64 63 ∧ FirstOutside s false 0x200 8 64 0 := by decide +kernel

theorem test_witness_Fft1d_geometry : LegalGeometry ready.act := cfg_geometry

theorem test_witness_Fft2d :
    let s := args ready 0xC0000000 0x40000000 0 0 0
    (s.mode = .configured ∧ s.winOk2D = true ∧ Readable s (s.operand 0).toNat (4 * s.nd) 4
      ∧ Writable s (s.operand 1).toNat (8 * s.nd) 8)
      ∧ ({ s with win2dInfo := ⟨15, 8, true, 32768⟩ } : State).winOk2D = false := by decide +kernel

theorem test_witness_Fft3d :
    let s := args ready 0x3FFFFE00 0x40000000 0 0 0
    s.mode = .configured ∧ Readable s (s.operand 0).toNat 512 8 ∧ Writable s (s.operand 1).toNat 512 8 := by decide +kernel

theorem test_witness_Transforms : 1 ≤ 1 ∧ fft .k16 1 [⟨70000, 0⟩, ⟨70000, 0⟩] ≠ [] := by decide +kernel

theorem test_witness_LogMagnitude :
    (2 ^ 0 ≤ 1 ∧ 1 < 2 ^ (0 + 1)) ∧ (2 ^ 63 ≤ 2 ^ 63 ∧ 2 ^ 63 < 2 ^ (63 + 1))
      ∧ -2147483648 ≤ (⟨-2147483648, -2147483648⟩ : Cx).re ∧ (⟨-2147483648, -2147483648⟩ : Cx).im ≤ 2147483647 := by decide

/-- Each check of R205 and R207, and none of them failing. -/
theorem test_witness_Dma :
    ready.mode = .configured ∧ 12 ≤ 12 ∧ 11 < 12
      ∧ (ready.chan 11).xfer = .idle ∧ (inFlight.chan 11).xfer ≠ .idle ∧ (completed.chan 11).xfer ≠ .idle
      ∧ ((args ready 0 0 0x00010000 0 0).operand 2).truncate 16 = (0 : Half)
      ∧ ((args ready 0 0 0x00000001 0 0).operand 2 >>> 16).truncate 16 = (0 : Half)
      ∧ ((args ready 0 0 0xFFFF0001 0 0).operand 2).truncate 16 ≠ (0 : Half)
      ∧ ((args ready 0 0 0xFFFF0001 0 0).operand 2 >>> 16).truncate 16 ≠ (0 : Half)
      ∧ (ready.chan 11).configured = false ∧ (withChan.chan 11).configured = true
      ∧ (withChan.chan 11).srcBound = true ∧ (withChan.chan 11).dstBound = true ∧ (withChan.chan 11).xfer = .idle
      ∧ (inFlight.chan 11).configured = true ∧ (inFlight.chan 11).srcBound = true := by decide +kernel

theorem test_witness_DmaStart_unbound :
    let c := (ready.setChan 0 { chan with srcBound := false }).chan 0
    c.configured = true ∧ c.srcBound = false ∧ c.dstBound = true := by decide +kernel

theorem test_witness_DmaWait :
    (completed.chan 11).xfer.isDone = true ∧ (inFlight.chan 11).xfer.isDone = false
      ∧ ({ inFlight with seq := .wait 11 .complete } : State).seq = .wait 11 .complete
      ∧ ({ completed with seq := .wait 11 .complete } : State).seq = .wait 11 .complete
      ∧ ({ ready with seq := .pos .complete } : State).seq = .pos .complete := by decide +kernel

/-- The transfer in flight of channel 11 is alone. -/
theorem test_witness_Perform_undisturbed : Undisturbed inFlight 11 chan.desc := by
  refine ⟨by simp [inFlight, ready, State.setChan, State.reset],
    by simp [inFlight, ready, State.setChan, State.reset], fun q hq hne a => ?_⟩
  have h : (inFlight.chan q).xfer = .idle := by
    have : ∀ q, q < 12 → q ≠ 11 → (inFlight.chan q).xfer = .idle := by decide +kernel
    exact this q hq hne
  simp [h, Xfer.ownsWrite, Xfer.awaits]

theorem test_witness_Perform :
    (inFlight.chan 11).xfer = .busy chan.desc ∧ inFlight.mode ≠ .halted ∧ RangesOk inFlight chan.desc
      ∧ ¬ RangesOk inFlight ⟨0x3FFFFFFE, 0x40000000, 4, 2, 8, 4⟩ ∧ (completed.chan 11).xfer.isBusy = false
      ∧ (1 < chan.desc.ecount.toNat ∧ 3 < chan.desc.esize.toNat) ∧ halted.mode = .halted
      ∧ ¬ InDst chan.desc 1 (chan.desc.dstAt 0 + 3) ∧ ¬ InDst chan.desc 1 0x40000008 ∧ InDst chan.desc 1 0x40000007 := by
  decide +kernel

theorem test_witness_CfarDetects : 15 < (List.replicate 16 100).length ∧ ∀ v ∈ List.replicate 16 65535, v < 2 ^ 16 := by
  decide

/-- A peak at either end and in the middle of the shortest vector R259 allows, cyclic and not. -/
theorem test_witness_SinglePeak :
    (0 < 6 ∧ 5 < 6 ∧ 50 < 100 ∧ 1 ≤ (2 : BitVec 8).toNat ∧ (0 : BitVec 2) ≠ 3
        ∧ 2 ^ (2 : BitVec 4).toNat = 2 * (2 : BitVec 8).toNat
        ∧ 2 * ((1 : BitVec 8).toNat + (2 : BitVec 8).toNat) + 0 ≤ 6 ∧ (49 : Half).toNat < 100 - 50)
      ∧ cfar ⟨0, false, 2, 1, 2, 49⟩ ((List.replicate 6 50).set 5 100) = [5]
      ∧ cfar ⟨2, true, 2, 1, 2, 49⟩ ((List.replicate 7 50).set 0 100) = [0]
      ∧ cfar ⟨2, true, 2, 1, 2, 50⟩ ((List.replicate 7 50).set 0 100) = [] := by decide +kernel

theorem test_witness_CfarDop :
    let s := args ready 0x80000780 0 0 0 0
    (s.mode = .configured ∧ 1 ≤ s.nd ∧ s.nd ≤ 1024 ∧ Readable s (s.operand 0).toNat (2 * s.nd) 2)
      ∧ 1 % 2 ≠ 0 ∧ FirstOutside (small 16 0x62 0) false 0x62 2 16 15 ∧ FirstOutside (small 16 0x80 0) false 0x80 2 16 0 := by
  decide +kernel

theorem test_witness_CfarRng :
    let s := { args ready 0x800007C0 0 0 0 0 with numRawObj := 200 }
    s.mode = .configured ∧ s.numRawObj.toNat ≤ 200 ∧ 15 < s.nd ∧ s.nd ≤ 16 ∧ 1 ≤ s.nr
      ∧ FirstOutside (small 16 0x62 0) false 0x62 2 16 15
      ∧ Readable s (s.operand 0).toNat (2 * s.nr) 2 := by decide +kernel

theorem test_witness_Pkgrp :
    let s := { ready with act := { cfg with pkRange := true } }
    s.mode = .configured ∧ s.act.pkScheme = false ∧ 1 ≤ s.nd ∧ Readable s (s.buf 5) (2 * s.nr * s.nd) 2
      ∧ (grouping true true).act.pkScheme = true ∧ (grouping true true).rawList.length = 5 := by decide +kernel

/-- One candidate whose value stands in the detection matrix; its list does not overflow. -/
theorem test_witness_Schemes :
    let s := { ready with numRawObj := 1, rawObj := tabSet State.reset.rawObj 0 ⟨2, 3, 400⟩, mem := u16Mem 0x80000546 [400] }
    (s.mode = .configured ∧ 1 ≤ s.nd ∧ Readable s (s.buf 5) (2 * s.nr * s.nd) 2 ∧ s.rawList = [⟨2, 3, 400⟩])
      ∧ (∀ q ∈ s.rawList, q.range.toNat < s.nr ∧ q.doppler.toNat < s.nd
        ∧ q.peak.toNat = numAt s (s.buf 5 + 2 * (q.range.toNat * s.nd + q.doppler.toNat)) 2)
      ∧ s.act.pkRange = false ∧ s.act.pkDoppler = false
      ∧ (next (exec .pkgrpRun { s with act := { s.act with pkScheme := true } })).objTruncCount = s.objTruncCount := by
  decide +kernel

theorem test_witness_FirstPeak :
    (List.replicate 64 0).length = 64 ∧ (∀ v ∈ List.replicate 64 0, v = 0) ∧ firstPeak (List.replicate 63 0 ++ [1]) = 63 := by
  decide +kernel

theorem test_witness_Coordinates : 63 < 64 ∧ (⟨52429, 15, false, 0⟩ : XyCfg).q ≤ 15 := by decide

theorem test_witness_XyEst :
    let s := args ready 0x40000000 0 0 0 0
    s.mode = .configured ∧ 15 < s.nr ∧ s.nr ≤ 16 ∧ Readable s (s.operand 0).toNat 512 8
      ∧ FirstOutside (small 64 8 0) false 8 8 64 63 ∧ 4 % 8 ≠ 0 := by decide +kernel

/-- A lobe that covers every bin, one of a single bin, and the second peaks of R307 (a) and (c). -/
theorem test_witness_XyEst_lobes :
    let P := [(14, 100000), (15, 400000), (16, 1000000), (17, 500000), (18, 90000), (40, 300000), (41, 200000)].foldl
      (fun P kv => P.set kv.1 kv.2) (List.replicate 64 10)
    (P.length = 64 ∧ LobeOf P 16 3 3 ∧ (∀ i, i < 57 → listGet P ((16 + 3 + 1 + i) % 64) 0 ≤ listGet P ((16 + 3 + 1 + 20) % 64) 0)
        ∧ ∀ i, i < 20 → listGet P ((16 + 3 + 1 + i) % 64) 0 < listGet P ((16 + 3 + 1 + 20) % 64) 0)
      ∧ LobeOf (List.range 64) 63 63 0
      ∧ LobeOf (List.replicate 64 7) 0 0 0 ∧ firstPeak (List.replicate 64 7) = 0 := by decide +kernel

/-- Two antennas, an object to estimate. -/
def twoAntennas : State :=
  { ready with
    act := { cfg with numTx := 2 }
    numObjOut := 1
    objOut := tabSet State.reset.objOut 0 ⟨5, 3, 900, 0, 0, 0⟩ }

theorem test_witness_AngleObj :
    twoAntennas.mode = .configured ∧ twoAntennas.numObjOut.toNat ≤ 1 ∧ 0 < twoAntennas.numObjOut.toNat
      ∧ twoAntennas.nv ≠ 1 ∧ ready.nv = 1 ∧ twoAntennas.winOk2D = true
      ∧ ({ twoAntennas with win2dInfo := WinInfo.zero } : State).winOk2D = false
      ∧ (twoAntennas.chan 10).xfer = .idle
      ∧ ((twoAntennas.setChan 10 { chan with xfer := .done chan.desc }).chan 10).xfer ≠ .idle
      ∧ (let s := { twoAntennas with seq := .pos (.angle 0) }
        s.seq = .pos (.angle 0) ∧ Readable s (s.buf 12) (4 * s.nv * s.nd) 4) := by decide +kernel

theorem test_witness_ChirpEvent :
    ready.mode ≠ .running ∧ running.mode = .running ∧ running.chirpToken = false ∧ running.frameToken = false
      ∧ ({ running with chirpToken := true } : State).chirpToken = true
      ∧ ({ running with frameToken := true } : State).frameToken = true ∧ running.seq = .idle := by decide +kernel

/-- A running block with channels 0 to 10 programmed, at a position. -/
def at' (q : ChirpPos) (c : Nat) (last : Bool) : State :=
  { running with
    dma := withChans running 0 11 fun p _ => pipeline cfg p
    seq := .pos (.chirp q true)
    chirpScr := ⟨c, 0, c, false, false, last⟩ }

theorem test_witness_ChirpSteps :
    (at' .s1 0 false).seq = .pos (.chirp .s1 true)
      ∧ ((at' .s2 1 false).chirpScr.c < 2 ∧ 2 ≤ (at' .s2 2 false).chirpScr.c
        ∧ (((at' .s2 2 false).setChan 2 { chan with xfer := .done chan.desc }).chan 2).xfer.isDone = true
        ∧ ((at' .s2 3 false).chan 3).xfer.isDone = false)
      ∧ (1 ≤ (at' .s3 0 false).nrx ∧ ((at' .s3 0 false).chan 0).configured = true ∧ ((at' .s3 0 false).chan 0).xfer = .idle)
      ∧ (((at' .s6 1 false).chan 3).configured = true ∧ ((at' .s6 1 false).chan 3).xfer = .idle)
      ∧ (at' .s9 15 true).chirpScr.last = true ∧ (at' .s9 14 false).chirpScr.last = false := by decide +kernel

/-- Step 5 of an accumulating chirp, and the positions of step 8 with each of its waits open. -/
theorem test_witness_ChirpSteps_late :
    (let s := { at' .s5 0 false with act := cfgDc, chirpScr := ⟨0, 0, 0, true, false, false⟩ }
     s.act.dcAvg.toNat = 2 ^ 0 ∧ s.nrx ≤ 4 ∧ s.dcBins ≤ 32 ∧ (s.dcCount + 1).toNat = s.act.dcAvg.toNat * s.ntx)
      ∧ (let s := at' .s8 15 true
        s.chirpScr.last = true ∧ (s.chan 2).xfer.isDone = false
          ∧ ((s.setChan 2 { chan with xfer := .done chan.desc }).chan 2).xfer.isDone = true
          ∧ ((s.setChan 2 { chan with xfer := .done chan.desc }).chan 3).xfer.isDone = false
          ∧ ((s.setChan 3 { chan with xfer := .done chan.desc }).chan 3).xfer.isDone = true)
      ∧ (at' .s8second 15 true).seq = .pos (.chirp .s8second true)
      ∧ (at' .s8set 15 true).seq = .pos (.chirp .s8set true) := by decide +kernel

theorem test_witness_ChirpAntenna_last :
    let s := at' (.s4body 0) 1 false
    0 < s.nrx ∧ s.nrx ≤ 1 ∧ Readable s (s.buf 0) (4 * s.ns) 4 ∧ Writable s (s.buf 3) (4 * s.nr) 4 := by decide +kernel

/-- Two receive antennas, the first in work, the fetch of the second started. -/
theorem test_witness_ChirpAntenna_next :
    let c := { cfg with numRx := 2, bufBase := tabSet (tabSet cfg.bufBase 2 0x100) 3 0x200 }
    let s := { at' (.s4body 0) 1 false with act := c }
    let u := s.setChan 1 (restarted (s.chan 1) (BitVec.ofNat 32 (0xC0000000 + 4 * (1 * s.ns))) (BitVec.ofNat 32 (s.buf 1)))
    0 + 1 < s.nrx ∧ (s.chan 1).configured = true ∧ (s.chan 1).xfer = .idle ∧ Readable u (s.buf 0) (4 * s.ns) 4
      ∧ Writable u (s.buf 3) (4 * s.nr) 4 ∧ (s.chan 0).xfer.isDone = false
      ∧ ((s.setChan 0 { chan with xfer := .done chan.desc }).chan 0).xfer.isDone = true
      ∧ (List.range 5).all (passes c) = true := by decide +kernel

theorem test_witness_ChirpAntenna_geometry : LegalGeometry (at' (.s4body 0) 1 false).act := cfg_geometry

/-- An accumulating chirp meets the premise of the calibration, a chirp that does neither meets it emptily. -/
theorem test_witness_ChirpAntenna_calibrating :
    let s := { at' (.s4body 0) 1 false with act := cfgDc, chirpScr := ⟨1, 0, 1, true, false, false⟩ }
    LegalGeometry s.act ∧ s.act.dcEnable = true ∧ CheckHolds s.act 11 ∧ binsOf s = 3 ∧ binOf s 0 = 15 ∧ binOf s 2 = 1 := by
  have h := passes_of (c := cfgDc) (k := 12) (by decide +kernel)
  exact ⟨fun n hn => h n (by omega), rfl, h 11 (by omega), by decide +kernel, by decide +kernel, by decide +kernel⟩

theorem test_witness_Counters :
    LegalGeometry lateChirp.act ∧ lateChirp.txAntCount.toNat < lateChirp.ntx ∧ lateChirp.dopBinCount.toNat < lateChirp.nd
      ∧ lateChirp.chirpCount.toNat = lateChirp.dopBinCount.toNat * lateChirp.ntx + lateChirp.txAntCount.toNat
      ∧ running.chirpCount = 0 ∧ running.txAntCount.toNat < running.ntx :=
  ⟨cfg_geometry, by decide +kernel, by decide +kernel, by decide +kernel, by decide +kernel, by decide +kernel⟩

theorem test_witness_Calibration :
    let s := { running with act := cfgDc }
    LegalGeometry s.act ∧ CheckHolds s.act 11 ∧ s.act.dcEnable = true ∧ s.act.dcAvg.toNat = 2 ^ 0
      ∧ s.dcSum = Vector.replicate 256 ⟨0, 0⟩ ∧ 0 < s.ntx ∧ 0 < s.nrx
      ∧ (List.replicate 16 (⟨-32768, 32767⟩ : Cx)).length = s.nr
      ∧ (∀ z ∈ List.replicate 16 (⟨-32768, 32767⟩ : Cx), -32768 ≤ z.re ∧ z.re ≤ 32767 ∧ -32768 ≤ z.im ∧ z.im ≤ 32767)
      ∧ binsOf s = 3 ∧ binOf s 0 = 15 ∧ binOf s 2 = 1 := by
  have h := passes_of (c := cfgDc) (k := 12) (by decide +kernel)
  exact ⟨fun n hn => h n (by omega), h 11 (by omega), rfl, by decide +kernel, rfl, by decide +kernel, by decide +kernel,
    by decide +kernel, by decide +kernel, by decide +kernel, by decide +kernel, by decide +kernel⟩

theorem test_witness_Frame :
    ready.mode = .configured ∧ ({ ready with win2dInfo := WinInfo.zero } : State).winOk2D = false ∧ ready.winOk2D = true
      ∧ (let s := { ready with seq := .pos (.frame .s1 false) }
        s.seq = .pos (.frame .s1 false) ∧ ∀ p, p < 11 → 4 ≤ p → (s.chan p).xfer = .idle)
      ∧ (let s := ready.setChan 10 { chan with xfer := .done chan.desc }
        (s.chan 10).xfer ≠ .idle ∧ ∀ q, q < 10 → 4 ≤ q → (s.chan q).xfer = .idle)
      ∧ (let s := ready.setChan 4 { chan with xfer := .busy chan.desc }
        (s.chan 4).xfer ≠ .idle)
      ∧ ({ ready with seq := .pos (.frame .s8 true) } : State).seq = .pos (.frame .s8 true) := by decide +kernel

/-- The block in the inter-frame sequence, channels programmed. -/
def inFrame (q : FramePos) : State :=
  { ready with
    frameToken := true
    dma := withChans ready 0 11 fun p _ => pipeline cfg p
    seq := .pos (.frame q true) }

/-- Steps 2 and 3: the first fetch, and each wait of step 3 open or not. -/
theorem test_witness_Frame_waits :
    0 < ready.nr * ready.nv ∧ ({ ready with act := Cfg.zero } : State).nr = 0
      ∧ ((inFrame .s2start).chan 4).configured = true ∧ ((inFrame .s2start).chan 4).xfer = .idle
      ∧ ((inFrame .s3).chan 6).xfer.isDone = false
      ∧ (let s := (inFrame .s3).setChan 6 { chan with xfer := .done chan.desc }
        (s.chan 6).xfer.isDone = true ∧ (s.chan 7).xfer.isDone = false)
      ∧ ((inFrame .s3second).setChan 7 { chan with xfer := .done chan.desc }).seq = .pos (.frame .s3second true) := by
  decide +kernel

/-- Step 4: no line flagged; the lines 0 and 15 flagged, at the start and in the first line's work. -/
theorem test_witness_Frame_lines :
    ((List.range (32 * max ((inFrame .s4start).nd / 32) 1)).filter (inFrame .s4start).bmpBit).length = 0
      ∧ (let s := { inFrame .s4start with bmpWord := tabSet ready.bmpWord 0 0x00008001 }
        NextBit s 0 ∧ (s.chan 8).configured = true ∧ (s.chan 8).xfer = .idle)
      ∧ (let s := { inFrame (.s4body 0) with
            bmpWord := tabSet ready.bmpWord 0 0x00008001, bmpCursor := 1, frameScr := ⟨[], 2, 0, 0⟩ }
        0 + 1 < s.frameScr.lines ∧ NextBit s 15 ∧ (s.chan 9).configured = true ∧ (s.chan 9).xfer = .idle)
      ∧ ((inFrame (.s4 0)).chan 8).xfer.isDone = false
      ∧ (((inFrame (.s4 0)).setChan 8 { chan with xfer := .done chan.desc }).chan 8).xfer.isDone = true := by decide +kernel

/-- The bodies of step 4's last line, of step 5 and of step 7 complete as commands. -/
theorem test_witness_Frame_bodies :
    (let s := { inFrame (.s4body 0) with frameScr := ⟨[], 1, 3, 0⟩, mem := u16Mem (ready.buf 10) (List.replicate 16 100) }
     s.frameScr.lines ≤ 0 + 1
        ∧ (next (exec (.cfarRng 3)
          { s with arg := tabSet s.arg 0 (BitVec.ofNat 32 (s.buf 10)), argPast := Vector.replicate 6 [] })).mode ≠ .halted)
      ∧ (next (exec .pkgrpRun { inFrame .s5 with mode := .configured })).seq = .idle
      ∧ (next (exec .outAsm { inFrame .s7 with mode := .configured })).seq = .idle := by decide +kernel

/-- Step 6: an object of a single antenna, and one that waits for its fetch. -/
theorem test_witness_Frame_objects :
    (next (exec (.angleObj 0) { inFrame (.s6 0) with numObjOut := 1 })).seq = .idle
      ∧ (let s := { twoAntennas with seq := .pos (.frame (.s6 0) false) }
        (next (exec (.angleObj 0) { s with mode := .configured })).seq = .wait 10 (.angle 0)) := by decide +kernel

/-- The last item of the pass, and one whose next fetch is started; the end of a range bin before and after its wait. -/
theorem test_witness_DopplerPass :
    let s := inFrame (.s2body 0)
    let u := s.setChan 5 (restarted (s.chan 5) (BitVec.ofNat 32 (s.cubeAddr (1 % s.nv) (1 / s.nv) 0)) (BitVec.ofNat 32 (s.buf 7)))
    (15 < s.nr * s.nv ∧ ¬ 15 + 1 < s.nr * s.nv ∧ Readable s (s.buf 7) (4 * s.nd) 4 ∧ Writable s (s.buf 13 + 8 * 15) 8 8)
      ∧ (0 + 1 < s.nr * s.nv ∧ (s.chan 5).configured = true ∧ (s.chan 5).xfer = .idle
        ∧ Readable u (s.buf 6) (4 * s.nd) 4 ∧ Writable u (s.buf 13) 8 8)
      ∧ (twoAntennas.nv = 2 ∧ 0 % 2 + 1 ≠ 2 ∧ 1 % 2 + 1 = 2 ∧ 1 / 2 < 2 ∧ 2 ≤ 5 / 2)
      ∧ ((s.chan 6).xfer.isDone = false ∧ ((s.setChan 6 { chan with xfer := .done chan.desc }).chan 6).xfer.isDone = true) := by
  decide +kernel

theorem test_witness_DopplerPass_tail :
    let s := { inFrame (.s2tail 15) with frameScr := ⟨List.replicate 16 7, 0, 0, 0⟩ }
    (s.chan 7).configured = true ∧ (s.chan 7).xfer = .idle ∧ s.frameScr.acc.length = s.nd
      ∧ Writable s (s.buf 9) (2 * s.nd) 2 := by decide +kernel

theorem test_witness_DopplerPass_geometry : LegalGeometry (inFrame (.s2 0)).act := cfg_geometry

theorem test_witness_DroppedFrame : ready.mode = .configured ∧ ready.logAvail = false := by decide +kernel

theorem test_witness_PublishedFrame :
    let s := { ready with act := { cfg with monSel := 31 }, logAvail := true, numObjOut := 100 }
    s.mode = .configured ∧ s.logAvail = true ∧ LegalConfig s.act s.spaces ∧ s.numObjOut.toNat ≤ 100
      ∧ ∀ k, k < 18 → MayRead s (s.buf k) (bufferSize s.act k) ∧ MayWrite s (s.buf k) (bufferSize s.act k) := by
  refine ⟨rfl, rfl, ⟨passes_of (by decide +kernel), by decide +kernel⟩, by decide +kernel, fun k _ => ⟨?_, ?_⟩⟩
  · intro j _ p hp
    have : ∀ p, p < 12 → (ready.chan p).xfer = .idle := by decide +kernel
    show (ready.chan p).xfer.ownsWrite _ = false
    rw [this p hp]; rfl
  · intro j _ p hp
    have : ∀ p, p < 12 → (ready.chan p).xfer = .idle := by decide +kernel
    show (ready.chan p).xfer.ownsWrite _ = false ∧ (ready.chan p).xfer.awaits _ = false
    rw [this p hp]; exact ⟨rfl, rfl⟩

/-- Offsets at the ends of the clauses: writable, read-only, in a list below its count and in its window; an idle and a busy
block. -/
theorem test_witness_RegisterMap :
    let s := { ready with numRawObj := 200, numObjOut := 100, window := ready.published }
    0x001 % 4 ≠ 0 ∧ writable 0x144 = some 0xFFFFFFFF ∧ writable 0x024 = some 0xFFFFFFFF ∧ writable 0x148 = none
      ∧ writable 0x0C8 = none ∧ ready.mode ≠ .halted ∧ halted.mode = .halted ∧ s.seq.busy = false ∧ (cmd 0 s).seq.busy = true
      ∧ (InRaw 0x263C ∧ (0x263C - 0x2000) / 8 < s.numRawObj.toNat ∧ s.window.raw = true)
      ∧ (InObjs 0x363C ∧ (0x363C - 0x3000) / 16 < s.numObjOut.toNat ∧ s.window.objs = true) := by decide +kernel

/-- R47, R30: a channel's status, and `STATUS` of a running block that waits. -/
theorem test_read_only :
    readOnly inFlight 0x378 = 0x3 ∧ readOnly completed 0x378 = 0x5
      ∧ readOnly { running with chirpToken := true, seq := .wait 2 (.chirp .s3 true) } 0x004 = 0x2132 := by decide +kernel

theorem test_witness_InterruptBits :
    (∃ t, step (will .chirp running) = .next t) ∧ (will .chirp running).agenda.head? ≠ some .reset
      ∧ ∀ w, (will .chirp running).agenda.head? ≠ some (.regWrite 0x030 w) :=
  ⟨⟨next (step _), next_of (by decide +kernel)⟩, by decide +kernel, fun w h => by simp [will] at h⟩

/-- R404: a sample written after its chirp's event is late; the next event forgets it. -/
theorem test_late_sample :
    let s := { running with chirpToken := true }
    ((s.wrBytes .host 0xC0000000 [1, 2]).lateSamples = [0xC0000001, 0xC0000000])
      ∧ (running.wrBytes .host 0xC0000000 [1, 2]).lateSamples = []
      ∧ ({ running with lateSamples := [0xC0000000] } : State).chirpEvent.lateSamples = [] := by decide +kernel

/-- R102, R337: after CFG.COMMIT no result is readable; a published frame opens every window, and a second CFG.COMMIT closes
none. -/
theorem test_window :
    let s := next (exec .cfgCommit { State.reset with stg := cfg })
    let t := next (exec .outAsm { s with logAvail := true })
    s.outsideWindow 0x80000500 = true ∧ s.outsideWindow 0x80000DC0 = true ∧ s.outsideWindow 0x80000800 = false
      ∧ t.outsideWindow 0x80000500 = false ∧ (next (exec .cfgCommit t)).outsideWindow 0x80000500 = false := by decide +kernel

/-- R233 (g): RUN.STOP in mid-frame opens the cube; at a frame boundary it opens nothing. -/
theorem test_window_runStop :
    (next (exec .runStop lateChirp)).outsideWindow 0x80000100 = false ∧ lateChirp.outsideWindow 0x80000100 = true
      ∧ (next (exec .runStop running)).outsideWindow 0x80000100 = true := by decide +kernel

/-- R337: after a CFG.COMMIT that exchanges `RANGEPROF` and `NOISEPROF` both published payloads stand where they stood; the heat
map rewritten in a frame goes, and goes alone. -/
theorem test_window_moved :
    let s := next (exec .outAsm { next (exec .cfgCommit { State.reset with stg := cfg }) with logAvail := true })
    let b := cfg.bufBase
    let t := next (exec .cfgCommit { s with stg := { cfg with bufBase := tabSet (tabSet b 14 (tabGet b 15 0)) 15 (tabGet b 14 0) } })
    let u := { t with window := t.window.close (t.placeOf 13) }
    t.buf 14 = s.buf 15 ∧ t.mode = .configured
      ∧ (∀ k ∈ [13, 14, 15], t.outsideWindow (t.buf k) = false)
      ∧ u.outsideWindow (u.buf 13) = true ∧ (∀ k ∈ [4, 5, 14, 15, 16, 17], u.outsideWindow (u.buf k) = false) := by
  decide +kernel

/-- R102: a rewritten place that overlaps what is shown of another buffer leaves the bytes below it and above it. -/
theorem test_window_overlap :
    let w := (⟨[⟨14, 100, 50⟩], true, true⟩ : Window).close ⟨15, 120, 10⟩
    (w.shows 119 ∧ w.shows 130 ∧ w.shows 100 ∧ w.shows 149) ∧ ¬ w.shows 120 ∧ ¬ w.shows 129 ∧ ¬ w.shows 150 := by decide +kernel

/-- R390 (6), R391: before a CFG.COMMIT no byte is outside a window. -/
theorem test_window_reset : ∀ a ∈ [0, 1203, 0x80000000], State.reset.outsideWindow a = false := by decide +kernel

/-- R58, R52: while the block is not busy an entry below the count reads as it is stored, published or not. -/
theorem test_rawEntry :
    let s := grouping true true
    s.window.raw = false ∧ s.busRead 0x2008 = 0x00030005 := by decide +kernel

/-- R58, R405, U7: in the inter-frame sequence a table may read as before it; a list published since reads as it is. -/
theorem test_busy_tables :
    let s := { ready with before := (grouping true true).tables, bmpWord := tabSet ready.bmpWord 0 5
                          seq := .wait 4 (.frame (.s2body 0) true) }
    s.readReg 0x400 = 5 ∧ s.earlier.readReg 0x400 = 0 ∧ s.earlier.readReg 0x2008 = 0x00030005
      ∧ ({ s with numRawObj := 2, window := s.published } : State).earlier.readReg 0x2008 = 0 := by decide +kernel

/-- R58: a table that the running command does not write reads as it is: `RAWOBJ` under NOP and under a stuck DMA.WAIT. -/
theorem test_busy_unwritten :
    ∀ q ∈ [Seq.cmd 0, .wait 3 .complete],
      let s := { grouping true true with seq := q }
      s.readReg 0x2008 = 0x00030005 ∧ s.ahead.readReg 0x2008 = 0x00030005 ∧ s.earlier.readReg 0x2008 = 0x00030005 := by
  decide +kernel

/-- U2: a halted block takes no write. -/
theorem test_halted_write : (halted.busWrite 0x040 4).stg.numRx = 1 := by decide +kernel

/-- The detection matrix published and not; a block without a configuration. -/
theorem test_inWindow :
    InWindow { ready with window := ready.published } 0x80000500 ∧ ¬ InWindow ready 0x80000500 ∧ InWindow State.reset 0 := by
  decide +kernel

/-- The last bytes of tier A, one past them, the ADC space. -/
theorem test_witness_HostMemoryPort :
    let s := ready
    (s.spaces.hostAdmits true 0x3FFFFFFC 4 = true ∧ MayWrite s 0x3FFFFFFC 4)
      ∧ (s.spaces.hostAdmits false 0x3FFFFFFC 4 = true ∧ MayRead s 0x3FFFFFFC 4
        ∧ ∀ k, k < 4 → InWindow s (0x3FFFFFFC + k))
      ∧ s.spaces.hostAdmits true 0x3FFFFFFD 4 = false ∧ s.spaces.hostAdmits false 0xC0000000 1 = false
      ∧ s.spaces.hostAdmits true 0xC0000000 1 = true ∧ tierOf 0xC0000000 = 3 ∧ tierOf 0xBFFFFFFF = 2 := by decide +kernel

end Sys2Proof.Tests
end

section
/-! SUPPORT. NOP (R137): the command word 0 and the other words of `OPC` 0, and the two ways the command ends. -/

namespace Sys2Proof.Proofs.Nop

open Sys2Proof.Machine Sys2Proof.Claim

/-! ## Words of `OPC` 0 -/

/-- `OPC` 0 selects NOP, of format `Z` (R114). -/
theorem decode_of_opcOf_zero {w : Word} (h : opcOf w = 0) : decode w = formatZ (selOf w) (immOf w) .nop := by
  simp only [decode, h]

/-- The three fields are the whole word: all zero in the word 0 only (R111). -/
theorem eq_zero_of_fields {w : Word} (hopc : opcOf w = 0) (hsel : selOf w = 0) (himm : immOf w = 0) : w = 0 := by
  apply BitVec.eq_of_toNat_eq
  simp only [opcOf, selOf, immOf] at hopc hsel himm
  show w.toNat = 0
  omega

/-- A word of `OPC` 0 other than 0 has a must-be-zero bit set (R112 step 2). -/
theorem decode_eq_error {w : Word} (hopc : opcOf w = 0) (hw : w ≠ 0) : decode w = .error .reservedBitSet := by
  have hfields : ¬ (selOf w = 0 ∧ immOf w = 0) := fun ⟨hsel, himm⟩ => hw (eq_zero_of_fields hopc hsel himm)
  rw [decode_of_opcOf_zero hopc, formatZ, if_neg hfields]

/-! ## How a command ends, in the words of the statements -/

/-- Stage 5 of R130 is `done`. -/
theorem complete_eq_done (s : State) : s.complete = done s := rfl

/-- The model's Fatal is `faulted` with the code's number (R352, R353). -/
theorem fatal_eq_faulted (s : State) (f : Fatal) : s.fatal f = faulted s f.code.num f.info := rfl

/-! ## The command -/

/-- `exec` runs NOP as a command with an empty body (R137). -/
theorem exec_nop (s : State) : exec .nop s = .next (command .nop (thenDone (pure ())) s) := rfl

/-- Every mode but `HALTED` admits NOP (R131). -/
theorem admitted_nop (m : Mode) : admitted .nop m = true ↔ m ≠ .halted := by
  simp [admitted]

/-- Where NOP is admitted its empty body completes at once, from the state as it stands (R130 stage 5). -/
theorem exec_nop_of_not_halted {s : State} (h : s.mode ≠ .halted) : exec .nop s = .next (done s) := by
  rw [exec_nop, command_admitted ((admitted_nop _).mpr h), settle_thenDone, seqr_pure, ← complete_eq_done]

/-- In `HALTED` the mode check refuses it (R130 stage 2). -/
theorem exec_nop_of_halted {s : State} (h : s.mode = .halted) : exec .nop s = .next (faulted s 0x41 0x00) := by
  have hrefused : admitted .nop s.mode = false := by simp [admitted, h]
  rw [exec_nop, command_refused hrefused, fatal_eq_faulted]
  rfl

/-- Settles O17: the word by evaluation, its illegal neighbours by the three fields of R111, the effect by the mode check. -/
theorem nopOnlyCompletes : Obligations.NopOnlyCompletes :=
  ⟨rfl, fun _ hopc hw => decode_eq_error hopc hw, fun _ => ⟨exec_nop_of_not_halted, exec_nop_of_halted⟩⟩

end Sys2Proof.Proofs.Nop
end

section
/-! SUPPORT. The Doppler-line bitmap (R150 to R155): the words of its four commands, what each command does to the bits and the
cursor, and the list of lines a scan has still to return. -/

namespace Sys2Proof.Proofs.Bitmap

open Sys2Proof.Machine Sys2Proof.Claim Sys2Proof.Proofs.Nop

/-! ## Command words -/

/-- An index that fits `IMM` stands beside the opcode: `|` puts them side by side (R111). -/
theorem toNat_opcode_or_index {opc i : Nat} (hopc : opc < 2 ^ 8) (hi : i < 2 ^ 16) :
    (BitVec.ofNat 32 (2 ^ 24 * opc) ||| BitVec.ofNat 32 i).toNat = 2 ^ 24 * opc + i := by
  have hor : 2 ^ 24 * opc + i = 2 ^ 24 * opc ||| i := Nat.two_pow_add_eq_or_of_lt (by omega) opc
  rw [BitVec.toNat_or, BitVec.toNat_ofNat, BitVec.toNat_ofNat, Nat.mod_eq_of_lt (by omega), Nat.mod_eq_of_lt (by omega), hor]

/-- The three fields of an opcode's word with an index (R111). -/
theorem fields_of_toNat {w : Word} {opc i : Nat} (hw : w.toNat = 2 ^ 24 * opc + i) (hi : i < 2 ^ 16) :
    opcOf w = opc ∧ selOf w = 0 ∧ immOf w = i := by
  simp only [opcOf, selOf, immOf, hw]
  omega

/-- The word of BMP.SET (R152). -/
theorem decode_bmpSet {i : Nat} (hi : i < 2 ^ 16) : decode (0x11000000 ||| BitVec.ofNat 32 i) = .ok (.bmpSet i) := by
  obtain ⟨hopc, hsel, himm⟩ := fields_of_toNat (toNat_opcode_or_index (opc := 0x11) (by decide) hi) hi
  change decode (BitVec.ofNat 32 (2 ^ 24 * 0x11) ||| _) = _
  simp only [decode, hopc, hsel, himm, formatI, if_true]

/-- The word of BMP.TEST (R153). -/
theorem decode_bmpTest {i : Nat} (hi : i < 2 ^ 16) : decode (0x12000000 ||| BitVec.ofNat 32 i) = .ok (.bmpTest i) := by
  obtain ⟨hopc, hsel, himm⟩ := fields_of_toNat (toNat_opcode_or_index (opc := 0x12) (by decide) hi) hi
  change decode (BitVec.ofNat 32 (2 ^ 24 * 0x12) ||| _) = _
  simp only [decode, hopc, hsel, himm, formatI, if_true]

/-! ## Bits -/

/-- An entry of a table after one entry was written. -/
theorem tabGet_tabSet {α : Type} {n : Nat} (t : Vector α n) (i j : Nat) (x d : α) :
    tabGet (tabSet t i x) j d = if i = j ∧ i < n then x else tabGet t j d := by
  have hsize : t.toArray.toList.length = n := by simp
  simp only [tabGet, tabSet, Vector.toList, Vector.toArray_setIfInBounds, Array.toList_setIfInBounds, List.getD_eq_getElem?_getD,
    List.getElem?_set, hsize]
  by_cases hij : i = j
  · subst hij
    by_cases hn : i < n <;> simp [hn]
  · simp [hij]

/-- Setting a bit of the 32 words changes that bit alone (R152). -/
theorem bmpBit_bmpMark (s : State) {i : Nat} (hi : i < 1024) (j : Nat) :
    (s.bmpMark i).bmpBit j = (s.bmpBit j || decide (j = i)) := by
  have hsame : j = i ↔ i / 32 = j / 32 ∧ i % 32 = j % 32 := by omega
  have hword : i / 32 < 32 := by omega
  simp only [State.bmpBit, State.bmpMark, tabGet_tabSet, hword, and_true, hsame]
  by_cases hw : i / 32 = j / 32
  · have hj : j % 32 < 32 := Nat.mod_lt _ (by decide)
    simp only [hw, true_and, if_true, BitVec.getLsbD_or, BitVec.getLsbD_ofNat, Nat.testBit_two_pow, hj, decide_true,
      Bool.true_and]
  · simp [hw]

/-- A cleared bitmap has no bit set (R151). -/
theorem bmpBit_bmpClear (s : State) (j : Nat) : s.bmpClear.bmpBit j = false := by
  have hzero : tabGet (Vector.replicate 32 (0 : Word)) (j / 32) 0 = 0 := by
    simp only [tabGet, Vector.toList_replicate, List.getD_eq_getElem?_getD, List.getElem?_replicate]
    split <;> rfl
  rw [State.bmpBit, State.bmpClear, hzero]
  exact BitVec.getLsbD_zero

/-! ## How the four commands end -/

/-- A bitmap command whose body answers completes, in `CONFIGURED` (R130 stage 5). -/
theorem command_eq_done {i : Instr} {body : Seqr Unit} {s t : State} (hadm : ∀ m, admitted i m = (m == .configured))
    (hm : s.mode = .configured) (hb : body s = .ok () t) : command i (thenDone body) s = done t := by
  rw [command_admitted (by simp [hadm, hm]), settle_thenDone, hb, ← complete_eq_done]

/-- A bitmap command whose body raises is that Fatal (R130, R352). -/
theorem command_eq_faulted {i : Instr} {body : Seqr Unit} {s t : State} {f : Fatal}
    (hadm : ∀ m, admitted i m = (m == .configured)) (hm : s.mode = .configured) (hb : body s = .error f t) :
    command i (thenDone body) s = faulted t f.code.num f.info := by
  rw [command_admitted (by simp [hadm, hm]), settle_thenDone, hb, ← fatal_eq_faulted]

/-- In every other mode it is the Fatal `CMD_MODE` (R130 stage 2, R131). -/
theorem command_wrong_mode {i : Instr} {body : Seqr Flow} {s : State} (hadm : ∀ m, admitted i m = (m == .configured))
    (hm : s.mode ≠ .configured) : command i body s = faulted s 0x41 i.opcode := by
  rw [command_refused (by simp [hadm, hm]), fatal_eq_faulted]
  rfl

/-! ## BMP.RESET, BMP.SET and BMP.TEST -/

theorem exec_bmpReset (s : State) : exec .bmpReset s = .next (command .bmpReset (thenDone (modify State.bmpClear)) s) := rfl

theorem exec_bmpSet (i : Nat) (s : State) : exec (.bmpSet i) s = .next (command (.bmpSet i) (thenDone (bmpSetBody i)) s) := rfl

theorem exec_bmpTest (i : Nat) (s : State) : exec (.bmpTest i) s = .next (command (.bmpTest i) (thenDone (bmpTestBody i)) s) := rfl

theorem bmpSetBody_ok {s : State} {i : Nat} (hi : i < s.nd) : bmpSetBody i s = .ok () (s.bmpMark i) := by
  simp [bmpSetBody, hi]

theorem bmpSetBody_error {s : State} {i : Nat} (hi : s.nd ≤ i) : bmpSetBody i s = .error ⟨.badIndex, i⟩ s := by
  simp [bmpSetBody, hi.not_gt]

theorem bmpTestBody_ok {s : State} {i : Nat} (hi : i < s.nd) :
    bmpTestBody i s = .ok () { s with res0 := if s.bmpBit i then 1 else 0 } := by
  cases hbit : s.bmpBit i <;> simp [bmpTestBody, hi, hbit, setRes0]

theorem bmpTestBody_error {s : State} {i : Nat} (hi : s.nd ≤ i) : bmpTestBody i s = .error ⟨.badIndex, i⟩ s := by
  simp [bmpTestBody, hi.not_gt]

/-- BMP.RESET clears all bits and the cursor (R151). -/
theorem exec_bmpReset_configured {s : State} (hm : s.mode = .configured) : exec .bmpReset s = .next (done s.bmpClear) := by
  rw [exec_bmpReset, command_eq_done (fun _ => rfl) hm (seqr_modify _ s)]

/-- BMP.SET of a Doppler bin sets its bit (R152). -/
theorem exec_bmpSet_bin {s : State} {i : Nat} (hm : s.mode = .configured) (hi : i < s.nd) :
    exec (.bmpSet i) s = .next (done (s.bmpMark i)) := by
  rw [exec_bmpSet, command_eq_done (fun _ => rfl) hm (bmpSetBody_ok hi)]

/-- BMP.SET of an index that is no Doppler bin (R152). -/
theorem exec_bmpSet_badIndex {s : State} {i : Nat} (hm : s.mode = .configured) (hi : s.nd ≤ i) :
    exec (.bmpSet i) s = .next (faulted s 0x31 i) := by
  rw [exec_bmpSet, command_eq_faulted (fun _ => rfl) hm (bmpSetBody_error hi)]
  rfl

/-- BMP.TEST of a Doppler bin reads its bit into `RES[0]` (R153). -/
theorem exec_bmpTest_bin {s : State} {i : Nat} (hm : s.mode = .configured) (hi : i < s.nd) :
    exec (.bmpTest i) s = .next (done { s with res0 := if s.bmpBit i then 1 else 0 }) := by
  rw [exec_bmpTest, command_eq_done (fun _ => rfl) hm (bmpTestBody_ok hi)]

/-- BMP.TEST of an index that is no Doppler bin (R153). -/
theorem exec_bmpTest_badIndex {s : State} {i : Nat} (hm : s.mode = .configured) (hi : s.nd ≤ i) :
    exec (.bmpTest i) s = .next (faulted s 0x31 i) := by
  rw [exec_bmpTest, command_eq_faulted (fun _ => rfl) hm (bmpTestBody_error hi)]
  rfl

/-- BMP.RESET, BMP.SET and BMP.TEST outside `CONFIGURED` (R131). -/
theorem exec_bitmap_wrong_mode {s : State} (hm : s.mode ≠ .configured) (i : Nat) :
    exec .bmpReset s = .next (faulted s 0x41 0x10) ∧ exec (.bmpSet i) s = .next (faulted s 0x41 0x11)
      ∧ exec (.bmpTest i) s = .next (faulted s 0x41 0x12) := by
  refine ⟨?_, ?_, ?_⟩
  · rw [exec_bmpReset, command_wrong_mode (fun _ => rfl) hm, Instr.opcode]
  · rw [exec_bmpSet, command_wrong_mode (fun _ => rfl) hm, Instr.opcode]
  · rw [exec_bmpTest, command_wrong_mode (fun _ => rfl) hm, Instr.opcode]

/-- Settles O23: the words by their fields, each effect by its command's rule, the one bit by `bmpBit_bmpMark`. -/
theorem bitmapResetSetAndTest : Obligations.BitmapResetSetAndTest := by
  refine ⟨rfl, fun i hi => ⟨decode_bmpSet hi, decode_bmpTest hi⟩, fun s i => ⟨exec_bmpReset_configured, ?_, ?_, ?_, ?_⟩⟩
  · intro hm hnd hi
    exact ⟨s.bmpMark i, exec_bmpSet_bin hm hi, rfl, bmpBit_bmpMark s (by omega)⟩
  · exact exec_bmpTest_bin
  · exact fun hm hi => ⟨exec_bmpSet_badIndex hm hi, exec_bmpTest_badIndex hm hi⟩
  · exact fun hm => exec_bitmap_wrong_mode hm i

/-! ## BMP.NEXT -/

/-- The scan answers the least set position at or above the cursor (R154). -/
theorem bmpFind_eq_some_iff {s : State} {i : Nat} : s.bmpFind = some i ↔ NextBit s i := by
  simp only [State.bmpFind, List.find?_range_eq_some, State.bmpSize, NextBit, List.mem_range, Bool.and_eq_true,
    decide_eq_true_eq, Bool.not_eq_true', Bool.and_eq_false_iff, decide_eq_false_iff_not]
  constructor
  · rintro ⟨⟨hcur, hbit⟩, hsize, hleast⟩
    exact ⟨hcur, hsize, hbit, fun j hj hji => (hleast j hji).resolve_left (not_not_intro hj)⟩
  · rintro ⟨hcur, hsize, hbit, hleast⟩
    exact ⟨⟨hcur, hbit⟩, hsize, fun j hji => or_iff_not_imp_left.mpr fun hj => hleast j (not_not.mp hj) hji⟩

/-- It answers nothing when no position at or above the cursor is set (R154). -/
theorem bmpFind_eq_none {s : State} (h : ∀ i, s.bmpCursor.toNat ≤ i → i < s.bmpSize → s.bmpBit i = false) :
    s.bmpFind = none := by
  simp only [State.bmpFind, List.find?_eq_none, List.mem_range, Bool.and_eq_true, decide_eq_true_eq]
  rintro i hsize ⟨hcur, hbit⟩
  simp [h i hcur hsize] at hbit

/-- The state after BMP.NEXT has returned line `i`: `RES[0]` and the cursor past it (R154). -/
def returned (s : State) (i : Nat) : State :=
  done { s with res0 := BitVec.ofNat 32 i, bmpCursor := BitVec.ofNat 11 (i + 1) }

theorem exec_bmpNext (s : State) : exec .bmpNext s = .next (command .bmpNext (thenDone bmpNextBody) s) := rfl

theorem bmpNextBody_ok {s : State} {i : Nat} (h : s.bmpFind = some i) :
    bmpNextBody s = .ok () { s with res0 := BitVec.ofNat 32 i, bmpCursor := BitVec.ofNat 11 (i + 1) } := by
  simp [bmpNextBody, bmpAdvance, h, setRes0]

theorem bmpNextBody_error {s : State} (h : s.bmpFind = none) :
    bmpNextBody s = .error ⟨.bitmapExhausted, s.bmpCursor.toNat⟩ s := by
  simp [bmpNextBody, bmpAdvance, h]

/-- BMP.NEXT returns the next line (R154). -/
theorem exec_bmpNext_nextBit {s : State} {i : Nat} (hm : s.mode = .configured) (h : NextBit s i) :
    exec .bmpNext s = .next (returned s i) := by
  rw [exec_bmpNext, command_eq_done (fun _ => rfl) hm (bmpNextBody_ok (bmpFind_eq_some_iff.mpr h)), returned]

/-- BMP.NEXT with no line left is the Fatal `BITMAP_EXHAUSTED` (R154). -/
theorem exec_bmpNext_exhausted {s : State} (hm : s.mode = .configured)
    (h : ∀ i, s.bmpCursor.toNat ≤ i → i < s.bmpSize → s.bmpBit i = false) :
    exec .bmpNext s = .next (faulted s 0x30 s.bmpCursor.toNat) := by
  rw [exec_bmpNext, command_eq_faulted (fun _ => rfl) hm (bmpNextBody_error (bmpFind_eq_none h))]
  rfl

/-- Settles O24: what the scan answers is `NextBit`, and the two ways the command ends follow. -/
theorem bmpNextFindsTheLeastBit : Obligations.BmpNextFindsTheLeastBit := by
  refine ⟨rfl, fun s hm => ?_, fun s hm _ => ⟨?_, exec_bmpNext_exhausted hm⟩⟩
  · rw [exec_bmpNext, command_wrong_mode (fun _ => rfl) hm, Instr.opcode]
  · exact fun i hcur hsize hbit hleast => exec_bmpNext_nextBit hm ⟨hcur, hsize, hbit, hleast⟩

/-! ## Setting a list of bins -/

/-- One command of a run that answers leaves the rest of the run to its state. -/
theorem afterAll_cons {i : Instr} {s t : State} (h : exec i s = .next t) (is : List Instr) :
    afterAll (i :: is) s = afterAll is t := by
  simp only [afterAll, h]

/-- `t` is `s` with the bits of the bins `S` set besides, as far as the scan can see. -/
structure Marked (s : State) (S : List Nat) (t : State) : Prop where
  mode : t.mode = s.mode
  act : t.act = s.act
  fault : t.fault = s.fault
  cursor : t.bmpCursor = s.bmpCursor
  bit : ∀ j, t.bmpBit j = (s.bmpBit j || decide (j ∈ S))

theorem marked_nil (s : State) : Marked s [] s := ⟨rfl, rfl, rfl, rfl, by simp⟩

/-- One bin set before the others. -/
theorem marked_cons {s t : State} {i : Nat} {S : List Nat} (hi : i < 1024) (h : Marked (done (s.bmpMark i)) S t) :
    Marked s (i :: S) t where
  mode := h.mode
  act := h.act
  fault := h.fault
  cursor := h.cursor
  bit j := by
    have hmark : (done (s.bmpMark i)).bmpBit j = (s.bmpBit j || decide (j = i)) := bmpBit_bmpMark s hi j
    simp [h.bit, hmark, Bool.or_assoc]

/-- A run of BMP.SET over bins marks them all and goes on (R152). -/
theorem afterAll_bmpSet (S : List Nat) (s : State) (hm : s.mode = .configured) (hnd : s.nd ≤ 1024) (hS : ∀ i ∈ S, i < s.nd) :
    ∃ t, Marked s S t ∧ ∀ is, afterAll (S.map .bmpSet ++ is) s = afterAll is t := by
  induction S generalizing s with
  | nil => exact ⟨s, marked_nil s, fun _ => rfl⟩
  | cons i S ih =>
    have hi : i < s.nd := hS i (by simp)
    obtain ⟨t, hmarked, hrun⟩ := ih (done (s.bmpMark i)) hm hnd fun j hj => hS j (by simp [hj])
    refine ⟨t, marked_cons (by omega) hmarked, fun is => ?_⟩
    rw [List.map_cons, List.cons_append, afterAll_cons (exec_bmpSet_bin hm hi), hrun]

/-! ## The lines a scan has still to return -/

/-- `L` lists, in ascending order, the set positions at or above the cursor: what BMP.NEXT will return. -/
structure LinesLeft (t : State) (L : List Nat) : Prop where
  mode : t.mode = .configured
  nd_le : t.nd ≤ 1024
  sorted : L.Pairwise (· < ·)
  mem_iff : ∀ i, i ∈ L ↔ t.bmpCursor.toNat ≤ i ∧ i < t.bmpSize ∧ t.bmpBit i = true

section
variable {t : State} {i : Nat} {L : List Nat}

/-- A listed line is a position of the 32 words. -/
theorem LinesLeft.lt (h : LinesLeft t L) (hi : i ∈ L) : i < 1024 := by
  obtain ⟨-, hsize, -⟩ := (h.mem_iff i).mp hi
  have hnd := h.nd_le
  simp only [State.bmpSize] at hsize
  omega

/-- The head of the list is the next line. -/
theorem LinesLeft.nextBit (h : LinesLeft t (i :: L)) : NextBit t i := by
  obtain ⟨hcur, hsize, hbit⟩ := (h.mem_iff i).mp (by simp)
  refine ⟨hcur, hsize, hbit, fun j hj hji => Bool.eq_false_iff.mpr fun hset => ?_⟩
  have hmem : j ∈ i :: L := (h.mem_iff j).mpr ⟨hj, hji.trans hsize, hset⟩
  rcases List.mem_cons.mp hmem with rfl | htail
  · exact lt_irrefl _ hji
  · exact lt_asymm hji (List.rel_of_pairwise_cons h.sorted htail)

/-- Once the head has been returned the tail is left: its lines are those above the head. -/
theorem LinesLeft.tail (h : LinesLeft t (i :: L)) : LinesLeft (returned t i) L where
  mode := h.mode
  nd_le := h.nd_le
  sorted := h.sorted.of_cons
  mem_iff j := by
    have hi : i < 1024 := h.lt (by simp)
    have hcursor : (returned t i).bmpCursor.toNat = i + 1 := by
      simp only [returned, done, BitVec.toNat_ofNat]
      omega
    have hcur : t.bmpCursor.toNat ≤ i := h.nextBit.1
    have htail : j ∈ L ↔ j ∈ i :: L ∧ i < j := by
      refine ⟨fun hj => ⟨by simp [hj], List.rel_of_pairwise_cons h.sorted hj⟩, fun ⟨hj, hij⟩ => ?_⟩
      exact (List.mem_cons.mp hj).resolve_left hij.ne'
    have hsize : (returned t i).bmpSize = t.bmpSize := rfl
    have hbit : (returned t i).bmpBit j = t.bmpBit j := rfl
    rw [htail, h.mem_iff, hcursor, hsize, hbit]
    constructor
    · exact fun ⟨⟨_, hj, hset⟩, hij⟩ => ⟨hij, hj, hset⟩
    · exact fun ⟨hij, hj, hset⟩ => ⟨⟨by omega, hj, hset⟩, hij⟩

/-- One BMP.NEXT of a run returns the head. -/
theorem LinesLeft.afterAll_bmpNext (h : LinesLeft t (i :: L)) (is : List Instr) :
    afterAll (.bmpNext :: is) t = afterAll is (returned t i) :=
  afterAll_cons (exec_bmpNext_nextBit h.mode h.nextBit) is

/-- As many BMP.NEXT as lines are left return them in order (R154, R155). -/
theorem LinesLeft.nextIndices_eq (h : LinesLeft t L) : nextIndices L.length t = L := by
  induction L generalizing t with
  | nil => rfl
  | cons i L ih =>
    have hres : (returned t i).res0.toNat = i := by
      have hi : i < 1024 := h.lt (by simp)
      simp only [returned, done, BitVec.toNat_ofNat]
      omega
    rw [List.length_cons, nextIndices, h.afterAll_bmpNext, afterAll, hres, ih h.tail]

/-- One BMP.NEXT more is the Fatal `BITMAP_EXHAUSTED`; the calls before it raised nothing (R154, R155). -/
theorem LinesLeft.exhausts (h : LinesLeft t L) :
    ∃ u, u.fault = t.fault ∧ afterAll (List.replicate (L.length + 1) .bmpNext) t = faulted u 0x30 u.bmpCursor.toNat := by
  induction L generalizing t with
  | nil =>
    have hnone : ∀ i, t.bmpCursor.toNat ≤ i → i < t.bmpSize → t.bmpBit i = false := fun i hcur hsize =>
      Bool.eq_false_iff.mpr fun hset => by simpa using (h.mem_iff i).mpr ⟨hcur, hsize, hset⟩
    exact ⟨t, rfl, afterAll_cons (exec_bmpNext_exhausted h.mode hnone) []⟩
  | cons i L ih =>
    obtain ⟨u, hfault, hrun⟩ := ih h.tail
    exact ⟨u, hfault, by rw [List.length_cons, List.replicate_succ, h.afterAll_bmpNext, hrun]⟩

end

/-! ## A reset, a set of bins, and the scan -/

/-- The members of `S` below `n`, in ascending order. -/
def ascending (n : Nat) (S : List Nat) : List Nat := (List.range n).filter (· ∈ S)

theorem mem_ascending {n i : Nat} {S : List Nat} : i ∈ ascending n S ↔ i < n ∧ i ∈ S := by
  simp [ascending]

theorem ascending_sorted (n : Nat) (S : List Nat) : (ascending n S).Pairwise (· < ·) :=
  List.pairwise_lt_range.filter _

/-- Distinct numbers below `n` in ascending order are the same numbers. -/
theorem ascending_perm {n : Nat} {S : List Nat} (hnodup : S.Nodup) (hS : ∀ i ∈ S, i < n) : (ascending n S).Perm S := by
  have hsorted : (ascending n S).Nodup := (ascending_sorted n S).imp ne_of_lt
  refine (List.perm_ext_iff_of_nodup hsorted hnodup).mpr fun i => ?_
  rw [mem_ascending]
  exact ⟨And.right, fun hi => ⟨hS i hi, hi⟩⟩

/-- A legal number of Doppler bins fits the table, and each bin has a position (R133 check 5, R150). -/
theorem nd_bounds {s : State} (h : LegalGeometry s.act) : s.nd ≤ 1024 ∧ s.nd ≤ s.bmpSize := by
  obtain ⟨⟨e, _, hpow⟩, _, hle⟩ := h 5 (by decide)
  refine ⟨hle, ?_⟩
  change s.nd = 2 ^ e at hpow
  simp only [State.bmpSize]
  rcases le_total e 5 with he | he
  · have hsmall : 2 ^ e ≤ 2 ^ 5 := Nat.pow_le_pow_right (by decide) he
    omega
  · obtain ⟨k, hk⟩ : 2 ^ 5 ∣ 2 ^ e := Nat.pow_dvd_pow 2 he
    omega

/-- After a reset and the bins of `S` set, the scan has exactly them to return (R151, R152). -/
theorem linesLeft_of_marked {s t : State} {S : List Nat} (hm : s.mode = .configured) (hgeo : LegalGeometry s.act)
    (h : Marked (done s.bmpClear) S t) (hS : ∀ i ∈ S, i < s.nd) : LinesLeft t (ascending s.nd S) := by
  obtain ⟨hnd, hsize⟩ := nd_bounds hgeo
  have hact : t.act = s.act := h.act
  have hcursor : t.bmpCursor = 0 := h.cursor
  have hbit : ∀ j, t.bmpBit j = decide (j ∈ S) := fun j => by
    have hclear : (done s.bmpClear).bmpBit j = false := bmpBit_bmpClear s j
    rw [h.bit, hclear, Bool.false_or]
  have htsize : t.bmpSize = s.bmpSize := by simp only [State.bmpSize, State.nd, hact]
  refine ⟨h.mode.trans hm, by simpa only [State.nd, hact] using hnd, ascending_sorted _ _, fun i => ?_⟩
  simp only [mem_ascending, hcursor, htsize, hbit, decide_eq_true_eq]
  constructor
  · exact fun ⟨hi, hmem⟩ => ⟨Nat.zero_le i, hi.trans_le hsize, hmem⟩
  · exact fun ⟨_, _, hmem⟩ => ⟨hS i hmem, hmem⟩

/-- Settles O25: the run up to the last BMP.SET leaves exactly the bins of `S` to return, whatever commands follow it. -/
theorem bitmapIteratesTheSetBins : Obligations.BitmapIteratesTheSetBins := by
  intro s S hm hgeo hnodup hS
  obtain ⟨t, hmarked, hset⟩ := afterAll_bmpSet S (done s.bmpClear) hm (nd_bounds hgeo).1 hS
  have hrun : ∀ is, afterAll (.bmpReset :: S.map .bmpSet ++ is) s = afterAll is t := fun is => by
    rw [List.cons_append, afterAll_cons (exec_bmpReset_configured hm), hset]
  have hleft : LinesLeft t (ascending s.nd S) := linesLeft_of_marked hm hgeo hmarked hS
  have hperm : (ascending s.nd S).Perm S := ascending_perm hnodup hS
  obtain ⟨u, hfault, hlast⟩ := hleft.exhausts
  have hsame : u.fault = s.fault := hfault.trans hmarked.fault
  rw [hperm.length_eq] at hlast
  refine ⟨ascending s.nd S, hperm, ascending_sorted _ _, ?_, ?_, ?_⟩
  · have hstart : afterAll (.bmpReset :: S.map .bmpSet) s = t := by simpa [afterAll] using hrun []
    rw [hstart, ← hperm.length_eq, hleft.nextIndices_eq]
  · rw [hrun, hlast, ← hsame]
    exact apply_ite FaultReg.code _ _ _
  · rw [hrun, hlast]
    rfl

end Sys2Proof.Proofs.Bitmap
end

section
/-! SUPPORT. The index into a half window table (R164) and the mirror symmetry of the coefficients (R161, R163). -/

namespace Sys2Proof.Proofs.WindowIndex

open Sys2Proof.Machine

/-! ## The index -/

/-- The entries generated are read forward (R164). -/
theorem winIdx_of_lt {n len gen : Nat} (h : n < gen) : winIdx n len gen = n := if_pos h

/-- The positions past them are read mirrored (R164). -/
theorem winIdx_of_le {n len gen : Nat} (h : gen ≤ n) : winIdx n len gen = len - 1 - n := if_neg (by omega)

/-- A table of at least half the length is never read past its generated entries (R164, R165). -/
theorem winIdx_lt_gen {n len gen : Nat} (hn : n < len) (hhalf : len ≤ 2 * gen) : winIdx n len gen < gen := by
  rcases Nat.lt_or_ge n gen with h | h
  · rwa [winIdx_of_lt h]
  · rw [winIdx_of_le h]
    omega

/-! ## The mirror symmetry -/

/-- How far `k/d` of a turn is from the nearest whole turn, in `d`-th parts: the angle that `cosTurn` folds to. -/
def turnDist (k d : Nat) : Nat := if 2 * (k % d) ≤ d then k % d else d - k % d

/-- The cosine reads the angle through its distance from a whole turn only. -/
theorem cosTurn_eq_of_turnDist (k d : Nat) :
    cosTurn k d = if 4 * turnDist k d ≤ d then (cosQuarter (turnDist k d) d : Int)
      else -(cosQuarter (d - 2 * turnDist k d) (2 * d) : Int) := rfl

/-- Two angles that add up to whole turns have remainders that add up to none or to one. -/
theorem mod_add_mod_of_dvd {j k d : Nat} (hd : 0 < d) (h : d ∣ j + k) :
    (j % d = 0 ∧ k % d = 0) ∨ j % d + k % d = d := by
  have hj : j % d < d := Nat.mod_lt _ hd
  have hk : k % d < d := Nat.mod_lt _ hd
  have hsum : (j % d + k % d) % d = 0 := by rw [← Nat.add_mod, Nat.mod_eq_zero_of_dvd h]
  rcases Nat.lt_or_ge (j % d + k % d) d with hlt | hge
  · rw [Nat.mod_eq_of_lt hlt] at hsum
    omega
  · rw [Nat.mod_eq_sub_mod hge, Nat.mod_eq_of_lt (by omega)] at hsum
    omega

/-- Opposite angles are equally far from a whole turn. -/
theorem turnDist_eq_of_dvd {j k d : Nat} (hd : 0 < d) (h : d ∣ j + k) : turnDist j d = turnDist k d := by
  rcases mod_add_mod_of_dvd hd h with ⟨hj, hk⟩ | hsum
  · rw [turnDist, turnDist, hj, hk]
  · unfold turnDist
    split <;> split <;> omega

/-- The cosine is even: opposite angles have the same one. -/
theorem cosTurn_eq_of_dvd {j k d : Nat} (hd : 0 < d) (h : d ∣ j + k) : cosTurn j d = cosTurn k d := by
  rw [cosTurn_eq_of_turnDist, cosTurn_eq_of_turnDist, turnDist_eq_of_dvd hd h]

/-- A coefficient depends on its position through two cosines only (R161). -/
theorem winCoef_congr (kind : WinKind) {len m n : Nat} (q : Nat) (h1 : cosTurn m (len - 1) = cosTurn n (len - 1))
    (h2 : cosTurn (2 * m) (len - 1) = cosTurn (2 * n) (len - 1)) : winCoef kind len m q = winCoef kind len n q := by
  simp only [winCoef, h1, h2]

/-- A window is its own mirror image: positions `n` and `L - 1 - n` are opposite angles (R161). -/
theorem winCoef_mirror (kind : WinKind) {len n : Nat} (q : Nat) (hlen : 2 ≤ len) (hn : n < len) :
    winCoef kind len (len - 1 - n) q = winCoef kind len n q := by
  have hd : 0 < len - 1 := by omega
  have hsum : len - 1 ∣ len - 1 - n + n := ⟨1, by omega⟩
  have hdouble : len - 1 ∣ 2 * (len - 1 - n) + 2 * n := ⟨2, by omega⟩
  exact winCoef_congr kind q (cosTurn_eq_of_dvd hd hsum) (cosTurn_eq_of_dvd hd hdouble)

/-- The mirrored read gives the coefficient of the position asked for (R164). -/
theorem winCoef_winIdx (kind : WinKind) {len n : Nat} (gen q : Nat) (hlen : 2 ≤ len) (hn : n < len) :
    winCoef kind len (winIdx n len gen) q = winCoef kind len n q := by
  rcases Nat.lt_or_ge n gen with h | h
  · rw [winIdx_of_lt h]
  · rw [winIdx_of_le h, winCoef_mirror kind q hlen hn]

/-- Settles O27: the two reads of the index, its bound, and the mirror symmetry of the window. -/
theorem halfTableEqualsFullTable : Obligations.HalfTableEqualsFullTable :=
  fun kind _ gen _ q hlen hn hhalf _ =>
    ⟨winIdx_of_lt, winIdx_of_le, winIdx_lt_gen hn hhalf, winCoef_winIdx kind gen q hlen hn⟩

end Sys2Proof.Proofs.WindowIndex
end

section
/-! SUPPORT. The logarithm with 8 fraction bits (R179): its formula in an octave, its order, and the range of the
log-magnitude of a `c32` value (R180). -/

namespace Sys2Proof.Proofs.LogMagnitude

open Sys2Proof.Machine

/-! ## `LOG2Q8` -/

/-- There is no logarithm of 0: the answer is 0 (R179). -/
theorem log2q8_zero : log2q8 0 = 0 := rfl

/-- The formula of R179 in the octave from `2^e` on. -/
theorem log2q8_of_octave {m e : Nat} (hlo : 2 ^ e ≤ m) (hhi : m < 2 ^ (e + 1)) :
    log2q8 m = 256 * e + (m - 2 ^ e) * 256 / 2 ^ e := by
  have hm : m ≠ 0 := (Nat.two_pow_pos e |>.trans_le hlo).ne'
  have hlog : Nat.log2 m = e := (Nat.log2_eq_iff hm).mpr ⟨hlo, hhi⟩
  rw [log2q8, if_neg hm, hlog]

/-- A positive number lies in an octave. -/
theorem exists_octave {m : Nat} (hm : m ≠ 0) : ∃ e, 2 ^ e ≤ m ∧ m < 2 ^ (e + 1) :=
  ⟨Nat.log2 m, Nat.log2_self_le hm, Nat.lt_log2_self⟩

/-- At a power of two the fraction is 0. -/
theorem log2q8_two_pow (e : Nat) : log2q8 (2 ^ e) = 256 * e := by
  rw [log2q8_of_octave le_rfl (Nat.pow_lt_pow_succ (by decide)), Nat.sub_self, Nat.zero_mul, Nat.zero_div, Nat.add_zero]

/-- The fraction does not reach 256: below the next power of two the logarithm is below that power's. -/
theorem log2q8_lt_of_octave {m e : Nat} (hlo : 2 ^ e ≤ m) (hhi : m < 2 ^ (e + 1)) : log2q8 m < 256 * (e + 1) := by
  have hfrac : (m - 2 ^ e) * 256 / 2 ^ e < 256 := by
    rw [Nat.div_lt_iff_lt_mul (Nat.two_pow_pos e)]
    omega
  rw [log2q8_of_octave hlo hhi]
  omega

/-- R179: within an octave by the quotient, from a lower octave to a higher one by the whole part. -/
theorem log2q8_mono {m n : Nat} (hmn : m ≤ n) : log2q8 m ≤ log2q8 n := by
  rcases Nat.eq_zero_or_pos m with rfl | hm
  · exact log2q8_zero ▸ Nat.zero_le _
  obtain ⟨e, he, he'⟩ := exists_octave hm.ne'
  obtain ⟨f, hf, hf'⟩ := exists_octave (hm.trans_le hmn).ne'
  have hef : e < f + 1 := (Nat.pow_lt_pow_iff_right (by decide)).mp (he.trans_lt (hmn.trans_lt hf'))
  rcases Nat.lt_succ_iff_lt_or_eq.mp hef with hlt | rfl
  · calc log2q8 m ≤ 256 * (e + 1) := (log2q8_lt_of_octave he he').le
      _ ≤ 256 * f := Nat.mul_le_mul_left _ hlt
      _ ≤ log2q8 n := log2q8_of_octave hf hf' ▸ Nat.le_add_right _ _
  · rw [log2q8_of_octave he he', log2q8_of_octave hf hf']
    exact Nat.add_le_add_left (Nat.div_le_div_right (Nat.mul_le_mul_right _ (Nat.sub_le_sub_right hmn _))) _

/-! ## The log-magnitude -/

/-- A 32-bit part squares to at most `2^62`. -/
theorem sq_le_of_int32 {x : Int} (hlo : -2147483648 ≤ x) (hhi : x ≤ 2147483647) : x * x ≤ 2 ^ 62 := by
  have habs : |x| ≤ 2 ^ 31 := abs_le.mpr ⟨by omega, by omega⟩
  calc x * x = |x| * |x| := (abs_mul_abs_self x).symm
    _ ≤ 2 ^ 31 * 2 ^ 31 := mul_le_mul habs habs (abs_nonneg x) (by decide)
    _ = 2 ^ 62 := by decide

/-- The squared magnitude of a `c32` value is at most `2^63`, where both parts are least (R180). -/
theorem magSq_le_of_c32 {z : Cx} (hre : -2147483648 ≤ z.re) (hre' : z.re ≤ 2147483647) (him : -2147483648 ≤ z.im)
    (him' : z.im ≤ 2147483647) : magSq z ≤ 2 ^ 63 := by
  have h1 := sq_le_of_int32 hre hre'
  have h2 := sq_le_of_int32 him him'
  rw [magSq]
  omega

/-- The largest log-magnitude of R180. -/
theorem logMag_le_of_magSq {z : Cx} (h : magSq z ≤ 2 ^ 63) : logMag z ≤ 8064 :=
  calc logMag z ≤ log2q8 (2 ^ 63) / 2 := Nat.div_le_div_right (log2q8_mono h)
    _ = 8064 := by rw [log2q8_two_pow]

/-- Settles O32: the printed values by the formula, the bound by monotonicity from the largest squared magnitude. -/
theorem logMagnitude : Obligations.LogMagnitude := by
  refine ⟨log2q8_zero, fun m e => log2q8_of_octave, log2q8_two_pow 0, log2q8_two_pow 1, ?three, ?five, ?thousand, ?max16,
    log2q8_two_pow 31, fun m n => log2q8_mono, ?range⟩
  case three => exact log2q8_of_octave (e := 1) (by decide) (by decide)
  case five => exact log2q8_of_octave (e := 2) (by decide) (by decide)
  case thousand => exact log2q8_of_octave (e := 9) (by decide) (by decide)
  case max16 => exact log2q8_of_octave (e := 15) (by decide) (by decide)
  case range =>
    intro z hre hre' him him'
    have hmax : logMag z ≤ 8064 := logMag_le_of_magSq (magSq_le_of_c32 hre hre' him him')
    exact ⟨rfl, hmax, by omega⟩

end Sys2Proof.Proofs.LogMagnitude
end

section
/-! SUPPORT. The DMA sequencer: how DMA.START ends (R206, R207), and what the perform step leaves in memory (R210) when
nothing breaks the ownership of its transfer (R101). -/

namespace Sys2Proof.Proofs.Dma

open Sys2Proof.Machine Sys2Proof.Claim Sys2Proof.Proofs.Nop Sys2Proof.Proofs.Bitmap

/-! ## DMA.START -/

theorem exec_dmaStart (p : Nat) (s : State) :
    exec (.dmaStart p) s = .next (command (.dmaStart p) (thenDone (dmaStart p)) s) := rfl

/-- A channel number stands in the low four bits of a Fatal's `info`: `|` puts it beside the check's number (R207). -/
theorem check_or_channel {p : Nat} (hp : p < 12) (n : Nat) : (2 ^ 4 * n ||| p) = 2 ^ 4 * n + p :=
  (Nat.two_pow_add_eq_or_of_lt (by omega) n).symm

/-- A transfer that is not idle fails the fourth check. -/
theorem isIdle_eq_false {x : Xfer} (h : x ≠ .idle) : x.isIdle = false := by
  cases x with
  | idle => exact absurd rfl h
  | busy d => rfl
  | done d => rfl

section
variable {s : State} {p : Nat}

/-- Check 1 of R207. -/
theorem dmaStart_noChannel (hp : 12 ≤ p) : dmaStart p s = .error ⟨.dmaConfig, p⟩ s := by
  simp [dmaStart, channelExists, hp.not_gt]

/-- Check 2 of R207. -/
theorem dmaStart_notConfigured (hp : p < 12) (hc : (s.chan p).configured = false) :
    dmaStart p s = .error ⟨.dmaConfig, 0x20 + p⟩ s := by
  have hinfo : 0x20 ||| p = 0x20 + p := check_or_channel hp 2
  simp [dmaStart, channelExists, hp, hc, hinfo]

/-- Check 3 of R207. -/
theorem dmaStart_unbound (hp : p < 12) (hc : (s.chan p).configured = true)
    (hb : (s.chan p).srcBound = false ∨ (s.chan p).dstBound = false) :
    dmaStart p s = .error ⟨.dmaConfig, 0x30 + p⟩ s := by
  have hboth : ((s.chan p).srcBound && (s.chan p).dstBound) = false := Bool.and_eq_false_iff.mpr hb
  have hinfo : 0x30 ||| p = 0x30 + p := check_or_channel hp 3
  simp [dmaStart, channelExists, hp, hc, hboth, hinfo]

/-- Check 4 of R207. -/
theorem dmaStart_notIdle (hp : p < 12) (hc : (s.chan p).configured = true) (hs : (s.chan p).srcBound = true)
    (hd : (s.chan p).dstBound = true) (hx : (s.chan p).xfer ≠ .idle) :
    dmaStart p s = .error ⟨.dmaProtocol, p⟩ s := by
  simp [dmaStart, channelExists, hp, hc, hs, hd, isIdle_eq_false hx]

/-- DMA.START whose body raises, in `CONFIGURED`. -/
theorem exec_dmaStart_faulted {f : Fatal} (hm : s.mode = .configured) (h : dmaStart p s = .error f s) :
    exec (.dmaStart p) s = .next (faulted s f.code.num f.info) := by
  rw [exec_dmaStart, command_eq_faulted (fun _ => rfl) hm h]

/-- DMA.START whose body answers, in `CONFIGURED`. -/
theorem exec_dmaStart_done {t : State} (hm : s.mode = .configured) (h : dmaStart p s = .ok () t) :
    exec (.dmaStart p) s = .next (done t) := by
  rw [exec_dmaStart, command_eq_done (fun _ => rfl) hm h]

end

/-- Settles O35: one lemma a check of R207, in their order, and `dmaStart_ok` when all pass. -/
theorem dmaStartTakesTheSnapshot : Obligations.DmaStartTakesTheSnapshot := by
  intro s p hm
  refine ⟨?noChannel, ?notConfigured, ?unbound, ?notIdle, ?started⟩
  case noChannel => exact fun hp => exec_dmaStart_faulted hm (dmaStart_noChannel hp)
  case notConfigured => exact fun hp hc => exec_dmaStart_faulted hm (dmaStart_notConfigured hp hc)
  case unbound => exact fun hp hc hb => exec_dmaStart_faulted hm (dmaStart_unbound hp hc hb)
  case notIdle => exact fun hp hc hs hd hx => exec_dmaStart_faulted hm (dmaStart_notIdle hp hc hs hd hx)
  case started => exact fun hp hc hs hd hx => exec_dmaStart_done hm (dmaStart_ok p s hp hc hs hd hx)

/-! ## Accesses that nobody contends for (R101) -/

/-- A write of `who` at `a` races with nobody: no other transfer owns the byte or waits for it, and no earlier write broke
the ownership. -/
def WriteFree (s : State) (who : Agent) (a : Nat) : Prop :=
  s.foreignDst who a = false ∧ s.wasRaced who a = false ∧ s.watchers who a = []

/-- Freedom to write is a matter of the channels and the recorded races, not of what memory holds. -/
theorem WriteFree.of_memory_changed {s t : State} {who : Agent} {a : Nat} (h : WriteFree s who a)
    (ht : t = { s with mem := t.mem }) : WriteFree t who a := by
  rw [ht]
  exact h

/-- An uncontended write of a channel or of the sequencer stores the byte and nothing else. -/
theorem wrByte_of_writeFree {s : State} {who : Agent} {a : Nat} (hwho : who ≠ .host) (h : WriteFree s who a) (b : Byte) :
    s.wrByte who a b = { s with mem := s.mem.set a b } := by
  obtain ⟨hforeign, hraced, hwatch⟩ := h
  simp [State.wrByte, State.isLate, hforeign, hraced, hwatch, hwho]

/-- Uncontended writes store their bytes and nothing else. -/
theorem stores_wrBytes {s : State} {who : Agent} {a : Nat} {bs : List Byte} (hwho : who ≠ .host)
    (hfree : ∀ y, a ≤ y → y < a + bs.length → WriteFree s who y) : Stores s (s.wrBytes who a bs) a bs := by
  induction bs generalizing s a with
  | nil => exact ⟨rfl, fun y => (if_neg (by simp)).symm⟩
  | cons b bs ih =>
    have hb := wrByte_of_writeFree hwho (hfree a le_rfl (by simp)) b
    obtain ⟨hframe, hbytes⟩ := ih (s := { s with mem := s.mem.set a b }) (a := a + 1) fun y hlo hhi =>
      hfree y (by omega) (by simp only [List.length_cons]; omega)
    rw [State.wrBytes, hb]
    refine ⟨hframe, fun y => ?_⟩
    rw [hbytes, List.length_cons]
    rcases Nat.lt_trichotomy y a with hy | rfl | hy
    · rw [if_neg (by omega), if_neg (by omega)]
      simp [byteAt, memory_get_set, hy.ne]
    · rw [if_neg (by omega), if_pos (by omega), Nat.sub_self]
      simp [byteAt, memory_get_set, listGet]
    · have hindex : y - a = y - (a + 1) + 1 := by omega
      by_cases hhi : y < a + (bs.length + 1)
      · rw [if_pos (by omega), if_pos (by omega), hindex]
        rfl
      · rw [if_neg (by omega), if_neg (by omega)]
        simp [byteAt, memory_get_set, hy.ne']

/-! ## Delivering elements (R210 step 3) -/

/-- `y` lies in element `e` of elements of `n` bytes, the first at `a`, each `stride` above the last (R204). -/
abbrev InElem (stride n a e y : Nat) : Prop := a + e * stride ≤ y ∧ y < a + e * stride + n

/-- The elements after the first are those of a list that starts one stride higher. -/
theorem inElem_succ {stride n a e y : Nat} : InElem stride n a (e + 1) y ↔ InElem stride n (a + stride) e y := by
  rw [InElem, InElem, Nat.succ_mul, Nat.add_comm (e * stride) stride, Nat.add_assoc a stride]

/-- The elements `xs`, of `n` bytes each, can be delivered from `a` up, and nobody contends for a byte of theirs. -/
structure Deliverable (s : State) (who : Agent) (stride n a : Nat) (xs : List (List Byte)) : Prop where
  notHost : who ≠ .host
  size : ∀ x ∈ xs, x.length = n
  free : ∀ e, e < xs.length → ∀ y, InElem stride n a e y → WriteFree s who y

section
variable {s : State} {who : Agent} {stride n a : Nat} {x : List Byte} {xs : List (List Byte)}

theorem Deliverable.head_length (h : Deliverable s who stride n a (x :: xs)) : x.length = n := h.size x (by simp)

/-- The first element is stored, and nothing else changes. -/
theorem Deliverable.head_stores (h : Deliverable s who stride n a (x :: xs)) : Stores s (s.wrBytes who a x) a x :=
  stores_wrBytes h.notHost fun y hlo hhi => h.free 0 (by simp) y (by rw [h.head_length] at hhi; constructor <;> omega)

/-- After the first element the others are deliverable one stride higher. -/
theorem Deliverable.tail (h : Deliverable s who stride n a (x :: xs)) :
    Deliverable (s.wrBytes who a x) who stride n (a + stride) xs where
  notHost := h.notHost
  size := fun z hz => h.size z (by simp [hz])
  free := fun e he y hy =>
    (h.free (e + 1) (by simpa using he) y (inElem_succ.mpr hy)).of_memory_changed h.head_stores.1

/-- A byte outside the first element keeps its value when that is stored. -/
theorem Deliverable.byteAt_head_outside (h : Deliverable s who stride n a (x :: xs)) {y : Nat}
    (hy : ¬ InElem stride n a 0 y) : byteAt (s.wrBytes who a x) y = byteAt s y := by
  rw [h.head_stores.2, if_neg]
  rw [h.head_length]
  simpa using hy

/-- A byte of the first element once that is stored. -/
theorem Deliverable.byteAt_head (h : Deliverable s who stride n a (x :: xs)) {k : Nat} (hk : k < n) :
    byteAt (s.wrBytes who a x) (a + k) = listGet x k 0 := by
  have hlen := h.head_length
  rw [h.head_stores.2, if_pos (by omega), Nat.add_sub_cancel_left]

/-- Delivering changes memory alone. -/
theorem Deliverable.deliver_eq (h : Deliverable s who stride n a xs) :
    s.deliver who stride a xs = { s with mem := (s.deliver who stride a xs).mem } := by
  induction xs generalizing s a with
  | nil => rfl
  | cons x xs ih =>
    rw [State.deliver, ih h.tail, h.head_stores.1]

/-- A byte in no element keeps its value. -/
theorem Deliverable.byteAt_outside (h : Deliverable s who stride n a xs) {y : Nat}
    (hy : ∀ e, e < xs.length → ¬ InElem stride n a e y) : byteAt (s.deliver who stride a xs) y = byteAt s y := by
  induction xs generalizing s a with
  | nil => rfl
  | cons x xs ih =>
    rw [State.deliver, ih h.tail fun e he hin => hy (e + 1) (by simpa using he) (inElem_succ.mpr hin),
      h.byteAt_head_outside (hy 0 (by simp))]

/-- A byte of an element that no later element overlaps there holds what was delivered: the highest element wins (R210). -/
theorem Deliverable.byteAt_last (h : Deliverable s who stride n a xs) {e k : Nat} (he : e < xs.length) (hk : k < n)
    (hlast : ∀ f, e < f → f < xs.length → ¬ InElem stride n a f (a + e * stride + k)) :
    byteAt (s.deliver who stride a xs) (a + e * stride + k) = listGet (listGet xs e []) k 0 := by
  induction xs generalizing s a e with
  | nil => exact absurd he (Nat.not_lt_zero e)
  | cons x xs ih =>
    rw [State.deliver]
    cases e with
    | zero =>
      rw [h.tail.byteAt_outside fun f hf hin => hlast (f + 1) (by omega) (by simpa using hf) (inElem_succ.mpr hin),
        Nat.zero_mul, Nat.add_zero, h.byteAt_head hk]
      rfl
    | succ e =>
      have hshift : a + (e + 1) * stride = a + stride + e * stride := by
        rw [Nat.succ_mul, Nat.add_comm (e * stride) stride, Nat.add_assoc]
      rw [hshift] at hlast ⊢
      exact ih h.tail (by simpa using he) fun f hef hf hin =>
        hlast (f + 1) (by omega) (by simpa using hf) (inElem_succ.mpr hin)

end

/-! ## The transfer of a channel -/

/-- The bytes of a footprint are those of its elements (R101, R204). -/
theorem readsAt_iff (d : Descr) (a : Nat) :
    d.readsAt a = true ↔ ∃ f, f < d.ecount.toNat ∧ d.srcAt f ≤ a ∧ a < d.srcAt f + d.esize.toNat :=
  covers_iff ..

theorem writesAt_iff (d : Descr) (a : Nat) : d.writesAt a = true ↔ ∃ f, f < d.ecount.toNat ∧ InDst d f a :=
  covers_iff ..

section
variable {s : State} {p : Nat} {d : Descr}

/-- No other channel owns a byte: an access of channel `p` there meets no foreign transfer. -/
theorem foreignDst_eq_false {a : Nat} (h : ∀ q, q < 12 → q ≠ p → (s.chan q).xfer.ownsWrite a = false) :
    s.foreignDst (.channel p) a = false := by
  refine List.any_eq_false.mpr fun q hq => ?_
  by_cases hqp : q = p
  · simp [hqp]
  · simp [h q (List.mem_range.mp hq) hqp]

/-- No other channel waits for a byte: a write of channel `p` there has no watchers. -/
theorem watchers_eq_nil {a : Nat} (h : ∀ q, q < 12 → q ≠ p → (s.chan q).xfer.awaits a = false) :
    s.watchers (.channel p) a = [] := by
  refine List.filter_eq_nil_iff.mpr fun q hq => ?_
  by_cases hqp : q = p
  · simp [hqp]
  · simp [h q (List.mem_range.mp hq) hqp]

/-- Where no race is recorded for the channel, its accesses meet none. -/
theorem wasRaced_eq_false (h : ∀ a, (p, a) ∉ s.raced) (a : Nat) : s.wasRaced (.channel p) a = false := by
  simpa [State.wasRaced] using h a

/-- The ownership of R101 leaves the transfer's destination to it. -/
theorem writeFree_of_undisturbed (h : Undisturbed s p d) {a : Nat} (ha : d.writesAt a = true) :
    WriteFree s (.channel p) a := by
  obtain ⟨hraced, -, hothers⟩ := h
  exact ⟨foreignDst_eq_false fun q hq hqp => ((hothers q hq hqp a).2 ha).1, wasRaced_eq_false hraced a,
    watchers_eq_nil fun q hq hqp => ((hothers q hq hqp a).2 ha).2⟩

/-- Under the ownership of R101 the transfer reads what memory holds. -/
theorem rdByte_of_undisturbed (h : Undisturbed s p d) {a : Nat} (ha : d.readsAt a = true) :
    s.rdByte (.channel p) a = byteAt s a := by
  obtain ⟨hraced, hlate, hothers⟩ := h
  have hforeign : s.foreignDst (.channel p) a = false := foreignDst_eq_false fun q hq hqp => (hothers q hq hqp a).1 ha
  have hfetch : s.fetchesLate (.channel p) a = false := by
    cases htoken : s.chirpToken with
    | false => simp [State.fetchesLate, htoken]
    | true => simpa [State.fetchesLate, htoken] using hlate htoken a ha
  simp [State.rdByte, hforeign, wasRaced_eq_false hraced, hfetch, byteAt]

/-- The elements read are what memory holds at their source addresses (R210 step 2). -/
theorem listGet_fetch (h : Undisturbed s p d) {e k : Nat} (he : e < d.ecount.toNat) (hk : k < d.esize.toNat) :
    listGet (listGet (s.fetch p d) e []) k 0 = byteAt s (d.srcAt e + k) := by
  have hreads : d.readsAt (d.srcAt e + k) = true := (readsAt_iff d _).mpr ⟨e, he, by omega, by omega⟩
  simp [listGet, State.fetch, State.rdBytes, he, hk, rdByte_of_undisturbed h hreads]

@[simp] theorem length_fetch (s : State) (p : Nat) (d : Descr) : (s.fetch p d).length = d.ecount.toNat := by
  simp [State.fetch]

/-- What an undisturbed transfer has read can be delivered. -/
theorem deliverable_fetch (h : Undisturbed s p d) :
    Deliverable s (.channel p) d.dstride.toNat d.esize.toNat d.dst.toNat (s.fetch p d) where
  notHost := nofun
  size := by simp [State.fetch, State.rdBytes]
  free := fun e he y hy => writeFree_of_undisturbed h ((writesAt_iff d y).mpr ⟨e, by simpa using he, hy⟩)

/-! ## The perform step (R210) -/

/-- The interrupt bits of the twelve channels are no reserved bits (R33). -/
theorem irqDmaDone_and_mask : ∀ p, p < 12 →
    BitVec.ofNat 32 (2 ^ irqDmaDone p) &&& irqMask = BitVec.ofNat 32 (2 ^ (16 + p)) := by
  decide

/-- `DMA_DONE[p]` is set, nothing else. -/
theorem raiseIrq_irqDmaDone (hp : p < 12) (s : State) :
    s.raiseIrq (irqDmaDone p) = { s with irqStatus := s.irqStatus ||| BitVec.ofNat 32 (2 ^ (16 + p)) } := by
  rw [State.raiseIrq, irqDmaDone_and_mask p hp]

/-- The end of a transfer that nothing raced with: its flags and, with `IEN`, its interrupt bit (R210 step 4). -/
theorem finishTransfer_eq (hp : p < 12) (hraced : ∀ a, (p, a) ∉ s.raced) :
    s.finishTransfer p d = { s with
      dma := (s.setChan p { s.chan p with xfer := .done d }).dma
      irqStatus := if (s.chan p).ien then s.irqStatus ||| BitVec.ofNat 32 (2 ^ (16 + p)) else s.irqStatus } := by
  have hkeep : (s.raced.filter fun x => x.1 != p) = s.raced :=
    List.filter_eq_self.mpr fun x hx => bne_iff_ne.mpr fun hxp => hraced x.2 (hxp ▸ hx)
  rw [State.finishTransfer]
  simp only [setChan_raced, hkeep, raiseIrq_irqDmaDone hp]
  cases (s.chan p).ien <;> rfl

/-- The end of a transfer writes no byte. -/
@[simp] theorem finishTransfer_mem (s : State) (p : Nat) (d : Descr) : (s.finishTransfer p d).mem = s.mem := by
  simp only [State.finishTransfer]
  split <;> rfl

theorem byteAt_finishTransfer (s : State) (p : Nat) (d : Descr) (a : Nat) :
    byteAt (s.finishTransfer p d) a = byteAt s a := by
  rw [byteAt, finishTransfer_mem, byteAt]

/-- The ranges of R210 step 1. -/
theorem admitted_iff : d.admitted s.spaces = true ↔ RangesOk s d := by
  simp [Descr.admitted, RangesOk]

/-- A channel that is not busy, or a halted block, performs nothing (R210, R211). -/
theorem perform_of_disabled (h : (s.chan p).xfer.isBusy = false ∨ s.mode = .halted) : s.perform p = s := by
  have henabled {d : Descr} (hbusy : (s.chan p).xfer = .busy d) (hmode : s.mode ≠ .halted) : False :=
    hmode (h.resolve_left (by simp [hbusy, Xfer.isBusy]))
  rcases perform_cases s p with hsame | ⟨d, hbusy, hmode, -⟩ | ⟨d, hbusy, hmode, -⟩
  · exact hsame
  · exact (henabled hbusy hmode).elim
  · exact (henabled hbusy hmode).elim

/-- An enabled channel copies when its ranges are admissible and is the Fatal `DMA_ERROR` when one is not (R210). -/
theorem perform_of_enabled (hbusy : (s.chan p).xfer = .busy d) (hmode : s.mode ≠ .halted) :
    s.perform p = if RangesOk s d
      then (s.deliver (.channel p) d.dstride.toNat d.dst.toNat (s.fetch p d)).finishTransfer p d
      else faulted s 0x22 p := by
  simp only [State.perform, hbusy, if_neg hmode, admitted_iff]
  rfl

end

/-- Settles O38: the footprints by `covers_iff`; the copy by delivering what was fetched, an element's byte standing
unless a later element overlaps it. -/
theorem performCopiesTheElements : Obligations.PerformCopiesTheElements := by
  refine ⟨fun d e a => ⟨rfl, rfl, readsAt_iff d a, writesAt_iff d a⟩, fun s p => ⟨rfl, perform_of_disabled, ?_⟩⟩
  intro d hp hbusy hmode
  rw [perform_of_enabled hbusy hmode]
  refine ⟨fun hbad => if_neg hbad, fun hok hown => ⟨_, if_pos hok, ?_⟩⟩
  have hdel := deliverable_fetch hown
  refine ⟨?frame, ?copied, ?kept⟩
  case frame =>
    rw [finishTransfer_mem, hdel.deliver_eq]
    exact finishTransfer_eq hp hown.1
  case copied =>
    intro e he k hk hlast
    rw [byteAt_finishTransfer, ← listGet_fetch hown he hk]
    exact hdel.byteAt_last (by simpa using he) hk fun f hef hf => hlast f hef (by simpa using hf)
  case kept =>
    intro a ha
    rw [byteAt_finishTransfer]
    exact hdel.byteAt_outside fun e he => ha e (by simpa using he)

end Sys2Proof.Proofs.Dma
end

section
/-! SUPPORT. The modulo chain (R236): the three counters as a function of the chirp's index in the frame, the two cases of
its step, and the frame boundary (R239). -/

namespace Sys2Proof.Proofs.ModuloChain

open Sys2Proof.Machine Sys2Proof.Claim Sys2Proof.Proofs.Bitmap

/-! ## The definition's two branches -/

/-- The antenna that closes its round takes the Doppler count with it. -/
theorem moduloChain_of_wrap {s : State} (h : s.txAntCount.toNat + 1 = s.ntx) :
    s.moduloChain = ({ s with
      chirpCount := BitVec.ofNat 12 ((s.chirpCount.toNat + 1) % s.ncf)
      txAntCount := 0
      dopBinCount := BitVec.ofNat 11 ((s.dopBinCount.toNat + 1) % s.nd) }, decide ((s.dopBinCount.toNat + 1) % s.nd = 0)) :=
  if_pos h

/-- Any other antenna leaves it. -/
theorem moduloChain_of_not_wrap {s : State} (h : s.txAntCount.toNat + 1 ≠ s.ntx) :
    s.moduloChain = ({ s with
      chirpCount := BitVec.ofNat 12 ((s.chirpCount.toNat + 1) % s.ncf)
      txAntCount := BitVec.ofNat 2 (s.txAntCount.toNat + 1) }, false) :=
  if_neg h

/-- Only the three counters change. -/
theorem moduloChain_frame (s : State) :
    s.moduloChain.1 = { s with
      chirpCount := s.moduloChain.1.chirpCount
      txAntCount := s.moduloChain.1.txAntCount
      dopBinCount := s.moduloChain.1.dopBinCount } := by
  by_cases hwrap : s.txAntCount.toNat + 1 = s.ntx
  · rw [moduloChain_of_wrap hwrap]
  · rw [moduloChain_of_not_wrap hwrap]

/-- Every chirp is counted modulo the frame, whichever antenna it is. -/
theorem moduloChain_chirpCount (s : State) :
    s.moduloChain.1.chirpCount = BitVec.ofNat 12 ((s.chirpCount.toNat + 1) % s.ncf) := by
  by_cases hwrap : s.txAntCount.toNat + 1 = s.ntx
  · rw [moduloChain_of_wrap hwrap]
  · rw [moduloChain_of_not_wrap hwrap]

/-- A number that fits a register is what the register holds. -/
theorem toNat_ofNat_of_lt {w n : Nat} (h : n < 2 ^ w) : (BitVec.ofNat w n).toNat = n := by
  rw [BitVec.toNat_ofNat, Nat.mod_eq_of_lt h]

/-! ## The counters of a chirp -/

/-- `s` with the counters of chirp `c` of a frame: antenna `c mod Ntx`, Doppler index `c / Ntx` (R236). -/
def atChirp (s : State) (c : Nat) : State :=
  { s with
    chirpCount := BitVec.ofNat 12 c
    txAntCount := BitVec.ofNat 2 (c % s.ntx)
    dopBinCount := BitVec.ofNat 11 (c / s.ntx) }

@[simp] theorem atChirp_ntx (s : State) (c : Nat) : (atChirp s c).ntx = s.ntx := rfl
@[simp] theorem atChirp_nd (s : State) (c : Nat) : (atChirp s c).nd = s.nd := rfl
@[simp] theorem atChirp_ncf (s : State) (c : Nat) : (atChirp s c).ncf = s.ncf := rfl

/-- One or two antennas transmit in turn (R133 check 2). -/
theorem ntx_bounds {s : State} (hgeo : LegalGeometry s.act) : 1 ≤ s.ntx ∧ s.ntx ≤ 2 := hgeo 2 (by decide)

/-- A legal frame has no more chirps than `CHIRP_COUNT` counts. -/
theorem ncf_le {s : State} (hgeo : LegalGeometry s.act) : s.ncf ≤ 2048 :=
  Nat.mul_le_mul (nd_bounds hgeo).1 (ntx_bounds hgeo).2

section
variable {s : State} {c : Nat} (hgeo : LegalGeometry s.act)
include hgeo

/-! ## The counters fit their registers -/

theorem toNat_atChirp_chirpCount (hc : c < s.ncf) : (atChirp s c).chirpCount.toNat = c :=
  toNat_ofNat_of_lt (by have := ncf_le hgeo; omega)

theorem toNat_atChirp_txAntCount : (atChirp s c).txAntCount.toNat = c % s.ntx := by
  obtain ⟨hpos, hle⟩ := ntx_bounds hgeo
  have hlt : c % s.ntx < s.ntx := Nat.mod_lt c hpos
  exact toNat_ofNat_of_lt (by omega)

theorem toNat_atChirp_dopBinCount (hc : c < s.ncf) : (atChirp s c).dopBinCount.toNat = c / s.ntx := by
  have hlt : c / s.ntx < s.nd := Nat.div_lt_of_lt_mul (by rwa [Nat.mul_comm])
  have hle := (nd_bounds hgeo).1
  exact toNat_ofNat_of_lt (by omega)

/-! ## One step of the chain -/

/-- The last antenna of a round: the next chirp opens the next Doppler index. -/
theorem moduloChain_atChirp_of_wrap (hc : c < s.ncf) (hwrap : c % s.ntx + 1 = s.ntx) :
    (atChirp s c).moduloChain = ({ s with
      chirpCount := BitVec.ofNat 12 ((c + 1) % s.ncf)
      txAntCount := 0
      dopBinCount := BitVec.ofNat 11 ((c / s.ntx + 1) % s.nd) }, decide ((c / s.ntx + 1) % s.nd = 0)) := by
  rw [moduloChain_of_wrap (by rwa [toNat_atChirp_txAntCount hgeo]), toNat_atChirp_chirpCount hgeo hc,
    toNat_atChirp_dopBinCount hgeo hc]
  rfl

/-- Before the last chirp of the frame the chain counts one chirp. -/
theorem moduloChain_of_lt (hc : c + 1 < s.ncf) : (atChirp s c).moduloChain = (atChirp s (c + 1), false) := by
  have hpos := (ntx_bounds hgeo).1
  have hclt : c < s.ncf := Nat.lt_of_succ_lt hc
  have hsplit : c % s.ntx + s.ntx * (c / s.ntx) = c := Nat.mod_add_div c s.ntx
  by_cases hwrap : c % s.ntx + 1 = s.ntx
  · obtain ⟨hdiv, hmod⟩ : (c + 1) / s.ntx = c / s.ntx + 1 ∧ (c + 1) % s.ntx = 0 :=
      (Nat.div_mod_unique hpos).mpr ⟨by rw [Nat.mul_add]; omega, hpos⟩
    have hd : c / s.ntx + 1 < s.nd := hdiv ▸ Nat.div_lt_of_lt_mul (by rwa [Nat.mul_comm])
    rw [moduloChain_atChirp_of_wrap hgeo hclt hwrap, Nat.mod_eq_of_lt hc, Nat.mod_eq_of_lt hd, atChirp, hdiv, hmod]
    rfl
  · have hlt : c % s.ntx < s.ntx := Nat.mod_lt c hpos
    obtain ⟨hdiv, hmod⟩ : (c + 1) / s.ntx = c / s.ntx ∧ (c + 1) % s.ntx = c % s.ntx + 1 :=
      (Nat.div_mod_unique hpos).mpr ⟨by omega, by omega⟩
    rw [moduloChain_of_not_wrap (by rwa [toNat_atChirp_txAntCount hgeo]), toNat_atChirp_chirpCount hgeo hclt,
      toNat_atChirp_txAntCount hgeo, atChirp_ncf, Nat.mod_eq_of_lt hc, ← hmod, atChirp, atChirp, hdiv]

/-- After the last chirp of the frame the chain is back at chirp 0, and says so. -/
theorem moduloChain_of_last (hc : c + 1 = s.ncf) : (atChirp s c).moduloChain = (atChirp s 0, true) := by
  have hpos := (ntx_bounds hgeo).1
  have hclt : c < s.ncf := by omega
  have hnd : 0 < s.nd := Nat.pos_of_mul_pos_right (Nat.zero_lt_of_lt hclt)
  have hncf : s.ncf = s.ntx * (s.nd - 1) + s.ntx := by
    rw [← Nat.mul_succ, Nat.succ_eq_add_one, Nat.sub_add_cancel hnd, Nat.mul_comm, State.ncf]
  obtain ⟨hdiv, hmod⟩ : c / s.ntx = s.nd - 1 ∧ c % s.ntx = s.ntx - 1 :=
    (Nat.div_mod_unique hpos).mpr ⟨by omega, by omega⟩
  have hwrap : c % s.ntx + 1 = s.ntx := by omega
  rw [moduloChain_atChirp_of_wrap hgeo hclt hwrap, hc, hdiv, Nat.sub_add_cancel hnd, Nat.mod_self, Nat.mod_self,
    atChirp, Nat.zero_mod, Nat.zero_div]
  rfl

/-- The flag is 1 exactly when the new chirp count is 0 (R236). -/
theorem moduloChain_last_iff (hc : c < s.ncf) :
    (atChirp s c).moduloChain.2 = true ↔ (atChirp s c).moduloChain.1.chirpCount = 0 := by
  rcases Nat.lt_or_eq_of_le (Nat.succ_le_of_lt hc) with hlt | hlast
  · rw [moduloChain_of_lt hgeo hlt]
    have hcount : (atChirp s (c + 1)).chirpCount.toNat = c + 1 := toNat_atChirp_chirpCount hgeo hlt
    have hne : (atChirp s (c + 1)).chirpCount ≠ 0 := fun h => by simp [h] at hcount
    exact iff_of_false Bool.false_ne_true hne
  · rw [moduloChain_of_last hgeo hlast]
    exact iff_of_true rfl rfl

/-! ## A frame of chirps -/

theorem chained_of_lt (n : Nat) (hn : n < s.ncf) : chained n (atChirp s 0) = (atChirp s n, false) := by
  induction n with
  | zero => rfl
  | succ n ih => rw [chained, ih (Nat.lt_of_succ_lt hn), moduloChain_of_lt hgeo hn]

theorem chained_ncf (hpos : 0 < s.ncf) : chained s.ncf (atChirp s 0) = (atChirp s 0, true) := by
  obtain ⟨c, hc⟩ := Nat.exists_eq_add_one.mpr hpos
  rw [hc, chained, chained_of_lt hgeo c (by omega), moduloChain_of_last hgeo hc.symm]

/-- The frame ends with its `Ncf`-th chirp and no other (R239). -/
theorem chained_last_iff {n : Nat} (hn : 1 ≤ n) (hle : n ≤ s.ncf) : (chained n (atChirp s 0)).2 = true ↔ n = s.ncf := by
  rcases Nat.lt_or_eq_of_le hle with hlt | rfl
  · simp [chained_of_lt hgeo n hlt, hlt.ne]
  · simp [chained_ncf hgeo hn]

end

/-! ## Any state whose counters decompose one chirp index -/

/-- The counters decompose the index of one chirp of the frame (R43). -/
structure Decomposed (s : State) : Prop where
  tx_lt : s.txAntCount.toNat < s.ntx
  dop_lt : s.dopBinCount.toNat < s.nd
  chirp_eq : s.chirpCount.toNat = s.dopBinCount.toNat * s.ntx + s.txAntCount.toNat

theorem Decomposed.chirp_lt {s : State} (h : Decomposed s) : s.chirpCount.toNat < s.ncf := by
  have htx := h.tx_lt
  calc s.chirpCount.toNat = s.dopBinCount.toNat * s.ntx + s.txAntCount.toNat := h.chirp_eq
    _ < (s.dopBinCount.toNat + 1) * s.ntx := by rw [Nat.add_one_mul]; omega
    _ ≤ s.ncf := Nat.mul_le_mul_right _ h.dop_lt

/-- Such a state has the counters of chirp `CHIRP_COUNT`. -/
theorem Decomposed.atChirp_self {s : State} (h : Decomposed s) : atChirp s s.chirpCount.toNat = s := by
  obtain ⟨hdiv, hmod⟩ : s.chirpCount.toNat / s.ntx = s.dopBinCount.toNat
      ∧ s.chirpCount.toNat % s.ntx = s.txAntCount.toNat :=
    (Nat.div_mod_unique (Nat.zero_lt_of_lt h.tx_lt)).mpr ⟨by rw [h.chirp_eq]; ring, h.tx_lt⟩
  simp [atChirp, hdiv, hmod]

/-- Settles O52: the counters by the two branches of R236; the flag and the frame by the index of the chirp they count. -/
theorem countersCloseAtTheLastChirp : Obligations.CountersCloseAtTheLastChirp := by
  intro s hgeo htx hdop hchirp
  have hdec : Decomposed s := ⟨htx, hdop, hchirp⟩
  have hself := hdec.atChirp_self
  have hncf := ncf_le hgeo
  have hclt := hdec.chirp_lt
  refine ⟨moduloChain_frame s, ?tx, ?dop, ?chirp, ?flag, ?flagIff, ?frame⟩
  case tx =>
    have hle := (ntx_bounds hgeo).2
    by_cases hwrap : s.txAntCount.toNat + 1 = s.ntx
    · simp [moduloChain_of_wrap hwrap, hwrap]
    · simp only [moduloChain_of_not_wrap hwrap, hwrap, decide_false]
      exact toNat_ofNat_of_lt (by omega)
  case dop =>
    have hle := (nd_bounds hgeo).1
    by_cases hwrap : s.txAntCount.toNat + 1 = s.ntx
    · have hlt : (s.dopBinCount.toNat + 1) % s.nd < s.nd := Nat.mod_lt _ (Nat.zero_lt_of_lt hdop)
      simp only [moduloChain_of_wrap hwrap, hwrap, decide_true]
      exact toNat_ofNat_of_lt (by omega)
    · simp [moduloChain_of_not_wrap hwrap, hwrap]
  case chirp =>
    have hlt : (s.chirpCount.toNat + 1) % s.ncf < s.ncf := Nat.mod_lt _ (Nat.zero_lt_of_lt hclt)
    rw [moduloChain_chirpCount]
    exact toNat_ofNat_of_lt (by omega)
  case flag =>
    by_cases hwrap : s.txAntCount.toNat + 1 = s.ntx
    · simp only [moduloChain_of_wrap hwrap, hwrap, decide_true, Bool.true_and]
    · simp only [moduloChain_of_not_wrap hwrap, hwrap, decide_false, Bool.false_and]
  case flagIff =>
    have hiff := moduloChain_last_iff hgeo hclt
    rwa [hself] at hiff
  case frame =>
    intro hzero
    have hstart : atChirp s 0 = s := by simpa [hzero] using hself
    have hlast := fun n => chained_last_iff hgeo (n := n)
    have hclosed := congrArg Prod.fst (chained_ncf hgeo (Nat.zero_lt_of_lt hclt))
    rw [hstart] at hclosed
    rw [hstart] at hlast
    exact ⟨hlast, hclosed⟩

end Sys2Proof.Proofs.ModuloChain
end

section
/-! SUPPORT. The CFAR detector (R254): the cells of a side window, the bounds of `S` by the two side sums, the detection list,
and the single peak over a flat floor (R259). -/

namespace Sys2Proof.Proofs.Cfar

open Sys2Proof.Machine Sys2Proof.Claim

/-! ## The side windows -/

/-- The index of the cell at distance `k` from `i` on the side `sign` (R254). -/
def cellIdx (n i k : Nat) (sign : Int) : Nat := (((i : Int) + sign * (k : Int)) % (n : Int)).toNat

theorem sideSum_eq (x : List Nat) (i g w : Nat) (sign : Int) :
    sideSum x i g w sign = ∑ k ∈ Finset.Icc (g + 1) (g + w), listGet x (cellIdx x.length i k sign) 0 := rfl

theorem cellIdx_lt {n : Nat} (hn : 0 < n) (i k : Nat) (sign : Int) : cellIdx n i k sign < n := by
  have hnonneg := Int.emod_nonneg ((i : Int) + sign * k) (b := n) (by omega)
  have hlt := Int.emod_lt_of_pos ((i : Int) + sign * k) (b := n) (by omega)
  simp only [cellIdx]
  omega

/-- At a distance short of a whole turn the cell is not the candidate itself: `sign * k` would be a multiple of `n`. -/
theorem cellIdx_ne {n i k : Nat} {sign : Int} (hk : 1 ≤ k) (hkn : k < n) (hsign : sign = 1 ∨ sign = -1) :
    cellIdx n i k sign ≠ i := by
  intro heq
  have hnonneg := Int.emod_nonneg ((i : Int) + sign * k) (b := n) (by omega)
  have hmod : ((i : Int) + sign * k) % n = i := by
    simp only [cellIdx] at heq
    omega
  have hdvd : (n : Int) ∣ sign * k := by
    have hsub := Int.dvd_self_sub_of_emod_eq hmod
    rwa [add_sub_cancel_left] at hsub
  have hdvdNat : n ∣ k := by
    rcases hsign with rfl | rfl
    · exact Int.natCast_dvd_natCast.mp (by simpa using hdvd)
    · exact Int.natCast_dvd_natCast.mp (by simpa using hdvd)
  exact absurd (Nat.le_of_dvd hk hdvdNat) (by omega)

/-- The model's loop over the window is the sum over the distances. -/
theorem windowSum_eq_sideSum (x : List Nat) (i g w : Nat) (sign : Int) :
    windowSum x i g w sign = sideSum x i g w sign := by
  induction w with
  | zero => simp [windowSum, sideSum]
  | succ w ih =>
    have hloop : windowSum x i g (w + 1) sign
        = windowSum x i g w sign + listGet x (cellIdx x.length i (g + 1 + w) sign) 0 := by
      simp [windowSum, cellIdx, List.range_succ]
    have hnext : g + (w + 1) = g + w + 1 := rfl
    rw [hloop, ih, sideSum_eq, sideSum_eq, hnext, Finset.sum_Icc_succ_top (by omega), Nat.add_right_comm g 1 w]

section
variable {x : List Nat} {i g w v : Nat} {sign : Int}

theorem sideSum_le (h : ∀ k ∈ Finset.Icc (g + 1) (g + w), listGet x (cellIdx x.length i k sign) 0 ≤ v) :
    sideSum x i g w sign ≤ w * v := by
  simpa [sideSum_eq] using Finset.sum_le_card_nsmul _ _ v h

theorem le_sideSum (h : ∀ k ∈ Finset.Icc (g + 1) (g + w), v ≤ listGet x (cellIdx x.length i k sign) 0) :
    w * v ≤ sideSum x i g w sign := by
  simpa [sideSum_eq] using Finset.card_nsmul_le_sum _ _ v h

end

/-- The model's estimate is `S` shifted right by `NOISE_DIV_SHIFT`: its window conditions are those of R254 moved to `Nat`. -/
theorem cfarNoise_eq (c : CfarCfg) (x : List Nat) (i : Nat) :
    cfarNoise c x i = noiseSum c x i / 2 ^ c.noiseDivShift.toNat := by
  have hleft : (c.guardLen.toNat + c.winLen.toNat ≤ i) ↔ 0 ≤ (i : Int) - c.guardLen.toNat - c.winLen.toNat := by omega
  have hright : (i + c.guardLen.toNat + c.winLen.toNat + 1 ≤ x.length)
      ↔ (i : Int) + c.guardLen.toNat + c.winLen.toNat ≤ (x.length : Int) - 1 := by omega
  simp only [cfarNoise, noiseSum, windowSum_eq_sideSum, hleft, hright, Bool.not_eq_true']

/-! ## `S` by the windows that exist -/

/-- The left window of `i` exists (R254). -/
def HasLeft (c : CfarCfg) (i : Nat) : Prop := c.cyclic = true ∨ c.guardLen.toNat + c.winLen.toNat ≤ i

/-- The right window of `i` exists in a vector of `n` cells (R254). -/
def HasRight (c : CfarCfg) (n i : Nat) : Prop := c.cyclic = true ∨ i + c.guardLen.toNat + c.winLen.toNat + 1 ≤ n

/-- A vector that holds both windows side by side has one of them at every index. -/
theorem hasLeft_or_hasRight {c : CfarCfg} {n : Nat} (hfits : 2 * (c.guardLen.toNat + c.winLen.toNat) ≤ n) (i : Nat) :
    HasLeft c i ∨ HasRight c n i := by
  simp only [HasLeft, HasRight]
  omega

/-- A side sum of the configuration's window. -/
abbrev sideOf (c : CfarCfg) (x : List Nat) (i : Nat) (sign : Int) : Nat :=
  sideSum x i c.guardLen.toNat c.winLen.toNat sign

/-- `S` of two windows with the sums `sL` and `sR`, by the averaging mode (R254). -/
def twoSided (c : CfarCfg) (sL sR : Nat) : Nat :=
  if c.avgMode = 0 then sL + sR else if c.avgMode = 1 then 2 * max sL sR else 2 * min sL sR

/-- Every mode lies between the double of the lesser sum and the double of the greater. -/
theorem twoSided_bounds (c : CfarCfg) (sL sR : Nat) :
    2 * min sL sR ≤ twoSided c sL sR ∧ twoSided c sL sR ≤ 2 * max sL sR := by
  unfold twoSided
  split_ifs <;> omega

section
variable {c : CfarCfg} {x : List Nat} {i : Nat}

/-- The test of the left window in `noiseSum`. -/
theorem leftTest_iff : (c.cyclic || decide (0 ≤ (i : Int) - c.guardLen.toNat - c.winLen.toNat)) = true ↔ HasLeft c i := by
  simpa only [HasLeft, Bool.or_eq_true, decide_eq_true_eq] using or_congr_right (by omega)

/-- The test of the right window in `noiseSum`. -/
theorem rightTest_iff {n : Nat} :
    (c.cyclic || decide ((i : Int) + c.guardLen.toNat + c.winLen.toNat ≤ (n : Int) - 1)) = true ↔ HasRight c n i := by
  simpa only [HasRight, Bool.or_eq_true, decide_eq_true_eq] using or_congr_right (by omega)

theorem noiseSum_of_both (hl : HasLeft c i) (hr : HasRight c x.length i) :
    noiseSum c x i = twoSided c (sideOf c x i (-1)) (sideOf c x i 1) := by
  simp only [noiseSum, leftTest_iff.mpr hl, rightTest_iff.mpr hr, Bool.and_self, Bool.true_eq_false, if_true, if_false,
    twoSided]

theorem noiseSum_of_left (hl : HasLeft c i) (hr : ¬ HasRight c x.length i) :
    noiseSum c x i = 2 * sideOf c x i (-1) := by
  simp only [noiseSum, leftTest_iff.mpr hl, eq_false_of_ne_true (mt rightTest_iff.mp hr), Bool.and_false,
    Bool.false_eq_true, if_true, if_false, add_zero]

theorem noiseSum_of_right (hl : ¬ HasLeft c i) (hr : HasRight c x.length i) :
    noiseSum c x i = 2 * sideOf c x i 1 := by
  simp only [noiseSum, eq_false_of_ne_true (mt leftTest_iff.mp hl), rightTest_iff.mpr hr, Bool.and_true,
    Bool.false_eq_true, if_true, if_false, zero_add]

theorem noiseSum_of_neither (hl : ¬ HasLeft c i) (hr : ¬ HasRight c x.length i) : noiseSum c x i = 0 := by
  simp only [noiseSum, eq_false_of_ne_true (mt leftTest_iff.mp hl), eq_false_of_ne_true (mt rightTest_iff.mp hr),
    Bool.and_self, Bool.false_eq_true, if_true, if_false, add_zero, mul_zero]

/-- `S` counts no more than two sides, in every mode and at every edge. -/
theorem noiseSum_le : noiseSum c x i ≤ 2 * max (sideOf c x i (-1)) (sideOf c x i 1) := by
  by_cases hl : HasLeft c i <;> by_cases hr : HasRight c x.length i
  · exact (noiseSum_of_both hl hr).trans_le (twoSided_bounds c _ _).2
  · rw [noiseSum_of_left hl hr]; omega
  · rw [noiseSum_of_right hl hr]; omega
  · rw [noiseSum_of_neither hl hr]; omega

/-- `S` counts two sides where a window exists: a missing one is replaced by its neighbour. -/
theorem le_noiseSum (h : HasLeft c i ∨ HasRight c x.length i) :
    2 * min (sideOf c x i (-1)) (sideOf c x i 1) ≤ noiseSum c x i := by
  by_cases hl : HasLeft c i <;> by_cases hr : HasRight c x.length i
  · exact (twoSided_bounds c _ _).1.trans_eq (noiseSum_of_both hl hr).symm
  · rw [noiseSum_of_left hl hr]; omega
  · rw [noiseSum_of_right hl hr]; omega
  · exact absurd h (not_or.mpr ⟨hl, hr⟩)

end

/-! ## The detection list -/

theorem mem_cfar {c : CfarCfg} {x : List Nat} {i : Nat} :
    i ∈ cfar c x ↔ i < x.length ∧ cfarNoise c x i + c.threshold.toNat < listGet x i 0 := by
  simp [cfar]

theorem cfar_pairwise (c : CfarCfg) (x : List Nat) : (cfar c x).Pairwise (· < ·) :=
  List.pairwise_lt_range.filter _

/-- An ascending list is known by its members. -/
theorem cfar_eq_of_mem_iff {c : CfarCfg} {x l : List Nat} (hl : l.Pairwise (· < ·)) (h : ∀ j, j ∈ cfar c x ↔ j ∈ l) :
    cfar c x = l :=
  (cfar_pairwise c x).eq_of_mem_iff hl h

/-- A value read from 16-bit data is below `2^16`, past the end as well. -/
theorem listGet_lt_of_forall {x : List Nat} (hx : ∀ v ∈ x, v < 2 ^ 16) (j : Nat) : listGet x j 0 < 2 ^ 16 := by
  by_cases hj : j < x.length
  · simpa [listGet, hj] using hx _ (List.getElem_mem hj)
  · simp [listGet, hj]

/-- `S` on 16-bit data: two sides of at most 255 cells. -/
theorem noiseSum_lt {c : CfarCfg} {x : List Nat} (hx : ∀ v ∈ x, v < 2 ^ 16) (i : Nat) : noiseSum c x i < 2 ^ 26 := by
  have hside : ∀ sign, sideOf c x i sign ≤ 255 * 65535 := fun sign =>
    calc sideOf c x i sign ≤ c.winLen.toNat * 65535 :=
          sideSum_le fun k _ => Nat.le_of_lt_succ (listGet_lt_of_forall hx _)
      _ ≤ 255 * 65535 := Nat.mul_le_mul_right _ (by omega)
  have hS := noiseSum_le (c := c) (x := x) (i := i)
  have hL := hside (-1)
  have hR := hside 1
  omega

/-- Settles O39: the loop of the model is the sum of R254, the list is filtered from an ascending one, and `S` counts two sides
at most. -/
theorem cfarDetectsAboveNoise : Obligations.CfarDetectsAboveNoise :=
  fun c x => ⟨fun i _ => cfarNoise_eq c x i, fun _ => mem_cfar, cfar_pairwise c x, noiseSum_lt⟩

/-! ## A single peak over a flat floor -/

/-- `n` cells of height `floor` with a peak at `i` (R259). -/
abbrev peaked (n i floor peak : Nat) : List Nat := (List.replicate n floor).set i peak

section
variable {n i j floor peak : Nat}

theorem listGet_peaked_self (hi : i < n) : listGet (peaked n i floor peak) i 0 = peak := by
  simp [listGet, hi]

theorem listGet_peaked_of_ne (hj : j < n) (hji : j ≠ i) : listGet (peaked n i floor peak) j 0 = floor := by
  simp [listGet, hj, Ne.symm hji]

theorem floor_le_listGet_peaked (hpeak : floor < peak) (hj : j < n) : floor ≤ listGet (peaked n i floor peak) j 0 := by
  by_cases hji : j = i
  · rw [hji, listGet_peaked_self (hji ▸ hj)]
    exact hpeak.le
  · exact (listGet_peaked_of_ne hj hji).ge

variable {c : CfarCfg}

/-- The divisor that makes the noise a mean (R259). -/
theorem cfarNoise_of_divisor (hdiv : 2 ^ c.noiseDivShift.toNat = 2 * c.winLen.toNat) (x : List Nat) :
    cfarNoise c x j = noiseSum c x j / (2 * c.winLen.toNat) := by
  rw [cfarNoise_eq, hdiv]

/-- The mean is nowhere below the floor: no cell of a window is. -/
theorem floor_le_cfarNoise (hw : 1 ≤ c.winLen.toNat) (hdiv : 2 ^ c.noiseDivShift.toNat = 2 * c.winLen.toNat)
    (hfits : 2 * (c.guardLen.toNat + c.winLen.toNat) ≤ n) (hpeak : floor < peak) :
    floor ≤ cfarNoise c (peaked n i floor peak) j := by
  have hside : ∀ sign, c.winLen.toNat * floor ≤ sideOf c (peaked n i floor peak) j sign := fun sign =>
    le_sideSum fun k _ => floor_le_listGet_peaked hpeak (by simpa using cellIdx_lt (n := n) (by omega) j k sign)
  have hS : 2 * min _ _ ≤ noiseSum c (peaked n i floor peak) j := le_noiseSum (by simpa using hasLeft_or_hasRight hfits j)
  have hL := hside (-1)
  have hR := hside 1
  rw [cfarNoise_of_divisor hdiv, Nat.le_div_iff_mul_le (by omega), Nat.mul_comm, Nat.mul_assoc]
  omega

/-- At the peak the mean is the floor: no window holds the peak. -/
theorem cfarNoise_at_peak (hw : 1 ≤ c.winLen.toNat) (hdiv : 2 ^ c.noiseDivShift.toNat = 2 * c.winLen.toNat)
    (hfits : 2 * (c.guardLen.toNat + c.winLen.toNat) ≤ n) (hpeak : floor < peak) :
    cfarNoise c (peaked n i floor peak) i = floor := by
  have hside : ∀ sign, sign = 1 ∨ sign = -1 → sideOf c (peaked n i floor peak) i sign ≤ c.winLen.toNat * floor :=
    fun sign hsign => sideSum_le fun k hk => by
      obtain ⟨hk1, hk2⟩ := Finset.mem_Icc.mp hk
      have hlt : cellIdx n i k sign < n := cellIdx_lt (by omega) i k sign
      have hne : cellIdx n i k sign ≠ i := cellIdx_ne (by omega) (by omega) hsign
      simpa using (listGet_peaked_of_ne hlt hne).le
  have hS := noiseSum_le (c := c) (x := peaked n i floor peak) (i := i)
  have hL := hside (-1) (.inr rfl)
  have hR := hside 1 (.inl rfl)
  refine Nat.le_antisymm ?_ (floor_le_cfarNoise hw hdiv hfits hpeak)
  rw [cfarNoise_of_divisor hdiv]
  refine Nat.div_le_of_le_mul ?_
  rw [Nat.mul_assoc]
  omega

end

/-- Settles O40: at the peak the noise is the floor, so the test is the threshold's; elsewhere the cell is the floor and the
noise no less. -/
theorem cfarFindsASinglePeak : Obligations.CfarFindsASinglePeak := by
  intro c n i floor peak hi hpeak hw _ hdiv hcells
  have hfits : 2 * (c.guardLen.toNat + c.winLen.toNat) ≤ n := le_of_add_le_left hcells
  have hdetected : ∀ j, j ∈ cfar c (peaked n i floor peak) ↔ j = i ∧ c.threshold.toNat < peak - floor := by
    intro j
    rw [mem_cfar, List.length_set, List.length_replicate]
    by_cases hji : j = i
    · rw [hji, cfarNoise_at_peak hw hdiv hfits hpeak, listGet_peaked_self hi]
      omega
    · have hnoise : floor ≤ cfarNoise c (peaked n i floor peak) j := floor_le_cfarNoise hw hdiv hfits hpeak
      refine iff_of_false (fun ⟨hj, habove⟩ => ?_) (fun ⟨h, _⟩ => hji h)
      rw [listGet_peaked_of_ne hj hji] at habove
      omega
  split_ifs with hthr
  · exact cfar_eq_of_mem_iff (List.pairwise_singleton _ _) fun j => by simp [hdetected, hthr]
  · exact cfar_eq_of_mem_iff .nil fun j => by simp [hdetected, hthr]

end Sys2Proof.Proofs.Cfar
end

section
/-! SUPPORT. The spectrum's peaks: the scan of R298 and R302 splits its bins at the first greatest one, whatever the bins and
the spectrum (one induction on the list of bins); the first peak is that scan over all bins, and what R298 asks of it is read
off the split. -/

namespace Sys2Proof.Proofs.Peak

open Sys2Proof.Machine

/-! ## The scan -/

/-- `r` is the first of the bins `ks` at which `P` is greatest: smaller before it, no greater behind it. -/
def FirstMaxOf (P ks : List Nat) (r : Nat) : Prop :=
  ∃ before after, ks = before ++ r :: after ∧ (∀ k ∈ before, listGet P k 0 < listGet P r 0)
    ∧ ∀ k ∈ after, listGet P k 0 ≤ listGet P r 0

section
variable {P : List Nat} {best k r : Nat} {ks : List Nat}

theorem bestOf_cons_of_lt (h : listGet P best 0 < listGet P k 0) : bestOf P best (k :: ks) = bestOf P k ks :=
  if_pos h

theorem bestOf_cons_of_le (h : listGet P k 0 ≤ listGet P best 0) : bestOf P best (k :: ks) = bestOf P best ks :=
  if_neg (by omega)

theorem FirstMaxOf.mem (h : FirstMaxOf P ks r) : r ∈ ks := by
  obtain ⟨before, after, rfl, -, -⟩ := h
  simp

theorem FirstMaxOf.le (h : FirstMaxOf P ks r) (hk : k ∈ ks) : listGet P k 0 ≤ listGet P r 0 := by
  obtain ⟨before, after, rfl, hbefore, hafter⟩ := h
  obtain hk | rfl | hk : k ∈ before ∨ k = r ∨ k ∈ after := by simpa using hk
  · exact (hbefore k hk).le
  · exact le_rfl
  · exact hafter k hk

/-- In an ascending list a bin less than `r` stands before it. -/
theorem FirstMaxOf.lt (h : FirstMaxOf P ks r) (hsorted : ks.Pairwise (· ≤ ·)) (hk : k ∈ ks) (hkr : k < r) :
    listGet P k 0 < listGet P r 0 := by
  obtain ⟨before, after, rfl, hbefore, -⟩ := h
  obtain ⟨hr, -⟩ := List.pairwise_cons.mp (List.pairwise_append.mp hsorted).2.1
  obtain hk | rfl | hk : k ∈ before ∨ k = r ∨ k ∈ after := by simpa using hk
  · exact hbefore k hk
  · exact absurd hkr (lt_irrefl k)
  · exact absurd hkr (hr k hk).not_gt

/-- A new head that is smaller than the bin behind it stands before the first greatest one. -/
theorem FirstMaxOf.cons_of_lt (h : FirstMaxOf P (k :: ks) r) (hlt : listGet P best 0 < listGet P k 0) :
    FirstMaxOf P (best :: k :: ks) r := by
  have hr : listGet P best 0 < listGet P r 0 := hlt.trans_le (h.le List.mem_cons_self)
  obtain ⟨before, after, heq, hbefore, hafter⟩ := h
  exact ⟨best :: before, after, by rw [heq, List.cons_append], List.forall_mem_cons.mpr ⟨hr, hbefore⟩, hafter⟩

/-- A bin no greater than the head does not matter behind it. -/
theorem FirstMaxOf.insert_of_le (h : FirstMaxOf P (best :: ks) r) (hle : listGet P k 0 ≤ listGet P best 0) :
    FirstMaxOf P (best :: k :: ks) r := by
  obtain ⟨before, after, heq, hbefore, hafter⟩ := h
  cases before with
  | nil =>
    obtain ⟨rfl, rfl⟩ := List.cons.inj heq
    exact ⟨[], k :: ks, rfl, hbefore, List.forall_mem_cons.mpr ⟨hle, hafter⟩⟩
  | cons b before =>
    obtain ⟨rfl, rfl⟩ := List.cons.inj heq
    obtain ⟨hb, hrest⟩ := List.forall_mem_cons.mp hbefore
    have hk : listGet P k 0 < listGet P r 0 := hle.trans_lt hb
    exact ⟨best :: k :: before, after, rfl, List.forall_mem_cons.mpr ⟨hb, List.forall_mem_cons.mpr ⟨hk, hrest⟩⟩, hafter⟩

end

/-- What the scan answers, in the order of its list (R298, R302). -/
theorem firstMaxOf_bestOf (P : List Nat) (best : Nat) (ks : List Nat) : FirstMaxOf P (best :: ks) (bestOf P best ks) := by
  induction ks generalizing best with
  | nil => exact ⟨[], [], rfl, by simp, by simp⟩
  | cons k ks ih =>
    by_cases h : listGet P best 0 < listGet P k 0
    · rw [bestOf_cons_of_lt h]
      exact (ih k).cons_of_lt h
    · rw [bestOf_cons_of_le (not_lt.mp h)]
      exact (ih best).insert_of_le (not_lt.mp h)

/-! ## The first peak -/

section
variable {P : List Nat} {k : Nat}

theorem firstMaxOf_firstPeak (P : List Nat) : FirstMaxOf P (0 :: List.range P.length) (firstPeak P) :=
  firstMaxOf_bestOf P 0 (List.range P.length)

theorem firstPeak_lt_length (h : 0 < P.length) : firstPeak P < P.length := by
  have hmem : firstPeak P = 0 ∨ firstPeak P < P.length := by simpa using (firstMaxOf_firstPeak P).mem
  omega

theorem le_firstPeak (hk : k < P.length) : listGet P k 0 ≤ listGet P (firstPeak P) 0 :=
  (firstMaxOf_firstPeak P).le (List.mem_cons_of_mem 0 (List.mem_range.mpr hk))

theorem lt_firstPeak (hk : k < P.length) (hkp : k < firstPeak P) : listGet P k 0 < listGet P (firstPeak P) 0 := by
  have hsorted : (0 :: List.range P.length).Pairwise (· ≤ ·) :=
    List.pairwise_cons.mpr ⟨fun j _ => Nat.zero_le j, List.pairwise_le_range⟩
  exact (firstMaxOf_firstPeak P).lt hsorted (List.mem_cons_of_mem 0 (List.mem_range.mpr hk)) hkp

/-- Bin 0 is already greatest where no value exceeds zero. -/
theorem firstPeak_eq_zero (hlen : 0 < P.length) (hzero : ∀ v ∈ P, v = 0) : firstPeak P = 0 := by
  have hpeak : listGet P (firstPeak P) 0 = 0 := by
    rw [listGet, List.getD_eq_getElem _ _ (firstPeak_lt_length hlen)]
    exact hzero _ (List.getElem_mem _)
  by_contra hne
  have hlt := lt_firstPeak hlen (Nat.pos_of_ne_zero hne)
  omega

end

/-- Settles O45: the scan's answer is in range, greatest, and greater than every bin before it. -/
theorem firstPeakIsTheLeastGreatest : Obligations.FirstPeakIsTheLeastGreatest := by
  intro P hlen
  have hpos : 0 < P.length := by omega
  have hlt : firstPeak P < 64 := (firstPeak_lt_length hpos).trans_eq hlen
  exact ⟨hlt, fun k hk => le_firstPeak (by omega), fun k hk => lt_firstPeak (by omega) hk, firstPeak_eq_zero hpos⟩

end Sys2Proof.Proofs.Peak
end

section
/-! SUPPORT. The chirp-available event (R357) and CHIRP.PROC (R231): the timing check they share, what each does with its
answer, and the idle sequencer's step on the token. -/

namespace Sys2Proof.Proofs.ChirpEvent

open Sys2Proof.Machine Sys2Proof.Claim Sys2Proof.Proofs.Nop

section
variable {s : State} {f : Fatal}

/-! ## The timing check -/

/-- Check 2 of R357: the last chirp still has the token. -/
theorem chirpFault_of_chirpToken (h : s.chirpToken = true) : s.chirpFault = some ⟨.timingChirp, s.chirpCount.toNat⟩ :=
  if_pos h

/-- Check 3 of R357: the last frame still has its token. -/
theorem chirpFault_of_frameToken (hc : s.chirpToken = false) (hf : s.frameToken = true) :
    s.chirpFault = some ⟨.timingFrame, s.chirpCount.toNat⟩ := by
  simp [State.chirpFault, hc, hf]

/-- With both tokens free the chirp is in time. -/
theorem chirpFault_eq_none (hc : s.chirpToken = false) (hf : s.frameToken = false) : s.chirpFault = none := by
  simp [State.chirpFault, hc, hf]

/-! ## The event -/

/-- Check 1 of R357: outside `RUNNING` the event is ignored. -/
theorem act_chirp_ignored (hm : s.mode ≠ .running) : act .chirp s = .next s :=
  congrArg Host.Outcome.next (if_neg hm)

/-- A chirp that comes too early is the Fatal the timing check answers. -/
theorem act_chirp_faulted (hm : s.mode = .running) (h : s.chirpFault = some f) :
    act .chirp s = .next (faulted s f.code.num f.info) := by
  rw [← fatal_eq_faulted, act, State.chirpEvent, if_pos hm, h]

/-- A chirp in time sets the token. -/
theorem act_chirp_accepted (hm : s.mode = .running) (h : s.chirpFault = none) :
    act .chirp s = .next { s with chirpToken := true, lateSamples := [] } := by
  rw [act, State.chirpEvent, if_pos hm, h]

/-! ## The start of the sequence -/

/-- The token enables the idle sequencer (R357). -/
theorem seqEnabled_of_chirpToken (hm : s.mode = .running) (hseq : s.seq = .idle) (hc : s.chirpToken = true) :
    s.seqEnabled = true := by
  simp [State.seqEnabled, hseq, hm, hc]

/-- The idle sequencer's step on the token is the start of the per-chirp sequence, which ends as no command (R357, R360). -/
theorem seqStep_of_chirpToken (hm : s.mode = .running) (hseq : s.seq = .idle) (hc : s.chirpToken = true) :
    seqStep s = .next { s with seq := .pos (.chirp .s1 false) } := by
  simp [seqStep, hseq, hm, hc]

/-! ## CHIRP.PROC -/

/-- In `RUNNING`, which alone admits the command, CHIRP.PROC is its body (R131). -/
theorem exec_chirpProc (hm : s.mode = .running) : exec .chirpProc s = .next (settle chirpProcBody s) := by
  have hadm : admitted .chirpProc s.mode = true := by rw [hm]; rfl
  rw [← command_admitted hadm]
  rfl

theorem chirpProcBody_error (h : s.chirpFault = some f) : chirpProcBody s = .error f s := by
  simp [chirpProcBody, h]

theorem chirpProcBody_ok (h : s.chirpFault = none) :
    chirpProcBody s = .ok (.pos (.chirp .s1 true)) { s with chirpToken := true, lateSamples := [] } := by
  simp [chirpProcBody, h]

/-- CHIRP.PROC too early is the Fatal the timing check answers (R231). -/
theorem exec_chirpProc_faulted (hm : s.mode = .running) (h : s.chirpFault = some f) :
    exec .chirpProc s = .next (faulted s f.code.num f.info) := by
  rw [← fatal_eq_faulted, exec_chirpProc hm, settle, chirpProcBody_error h]

/-- CHIRP.PROC in time sets the token and starts the sequence, which ends as a command (R231). -/
theorem exec_chirpProc_accepted (hm : s.mode = .running) (h : s.chirpFault = none) :
    exec .chirpProc s = .next { s with chirpToken := true, seq := .pos (.chirp .s1 true), lateSamples := [] } := by
  rw [exec_chirpProc hm, settle, chirpProcBody_ok h]

end

/-- Settles O49: the event and the command answer what `chirpFault` says, in the order of its three cases. -/
theorem chirpAvailableEvent : Obligations.ChirpAvailableEvent := by
  intro s
  refine ⟨act_chirp_ignored, ?eventChirp, ?eventFrame, ?eventToken, ?start, ?procChirp, ?procFrame, ?procToken⟩
  case eventChirp => exact fun hm hc => act_chirp_faulted hm (chirpFault_of_chirpToken hc)
  case eventFrame => exact fun hm hc hf => act_chirp_faulted hm (chirpFault_of_frameToken hc hf)
  case eventToken => exact fun hm hc hf => ⟨_, act_chirp_accepted hm (chirpFault_eq_none hc hf), rfl⟩
  case start => exact fun hm hseq hc => ⟨seqEnabled_of_chirpToken hm hseq hc, seqStep_of_chirpToken hm hseq hc⟩
  case procChirp => exact fun hm hc => exec_chirpProc_faulted hm (chirpFault_of_chirpToken hc)
  case procFrame => exact fun hm hc hf => exec_chirpProc_faulted hm (chirpFault_of_frameToken hc hf)
  case procToken => exact fun hm hc hf => ⟨_, exec_chirpProc_accepted hm (chirpFault_eq_none hc hf), rfl⟩

end Sys2Proof.Proofs.ChirpEvent
end

section
/-! SUPPORT. The reset event (R390, R391): the values that read 0, what each group of registers reads after the event, and what
else the event leaves. -/

namespace Sys2Proof.Proofs.Reset

open Sys2Proof.Machine

/-! ## Zero values read 0 -/

/-- Where the answer beyond the end is the value of every entry, the whole table reads that value. -/
theorem tabGet_replicate {α : Type} (n i : Nat) (x : α) : tabGet (Vector.replicate n x) i x = x := by
  simp only [tabGet, Vector.toList_replicate, List.getD_eq_getElem?_getD, List.getElem?_replicate]
  split <;> rfl

/-- A configuration of zeros reads 0 at every staging register (R390 (6)). -/
theorem cfgZero_readReg (off : Nat) : Cfg.zero.readReg off = 0 := by
  unfold Cfg.readReg
  split <;> rfl

/-- A cleared channel reads 0 at every register of its group (R390 (5)). -/
theorem chanZero_readReg (j : Nat) : Chan.zero.readReg j = 0 := by
  unfold Chan.readReg
  split <;> rfl

/-- An output descriptor of zeros reads 0 (R54). -/
theorem outDescZero_readReg (j : Nat) : OutDesc.readReg ⟨0, 0, 0⟩ j = 0 := by
  unfold OutDesc.readReg
  split <;> rfl

section
variable (s : State)

/-! ## What each group of registers reads after the event -/

/-- Of the registers below offset `0x100` the constant `NUM_ANGLE_BINS` alone is not 0 (R22); the last case of the definition is
the staging configuration. -/
theorem rst_readCore (off : Nat) : s.rst.readCore off = if off = 0x054 then 64 else 0 := by
  unfold State.readCore
  split
  case h_34 => exact (cfgZero_readReg off).trans (if_neg ‹off = 0x054 → False›).symm
  all_goals rfl

/-- `BUF_BASE` (R390 (6)). -/
theorem rst_bufBase (k : Nat) : tabGet s.rst.stg.bufBase k 0 = 0 := tabGet_replicate 18 k 0

/-- Every channel is cleared, its transfer with it (R390 (5)). -/
theorem rst_chan (p : Nat) : s.rst.chan p = Chan.zero := tabGet_replicate 12 p Chan.zero

/-- `BMP_WORD` (R48). -/
theorem rst_bmpWord (i : Nat) : tabGet s.rst.bmpWord i 0 = 0 := tabGet_replicate 32 i 0

/-- `DCSUM` (R51). -/
theorem rst_dcSum (i : Nat) : tabGet s.rst.dcSum i default = ⟨0, 0⟩ := tabGet_replicate 256 i (⟨0, 0⟩ : C32)

/-- `OUTDESC` (R54). -/
theorem rst_outDesc (i : Nat) : tabGet s.rst.outDesc i default = ⟨0, 0, 0⟩ :=
  tabGet_replicate 6 i (⟨0, 0, 0⟩ : OutDesc)

/-! ## What else the event leaves -/

/-- No interrupt source is pending, so the output is 0 (R361). -/
theorem rst_irq : s.rst.irq = false := decide_eq_false (not_not.mpr BitVec.zero_and)

end

/-! ## The whole map -/

/-- R390 over the register map, at the offsets outside `WIN1D`, `WIN2D`, `RAWOBJ` and `OBJOUT` (R22, U4). The groups come
in the order of the map: each reads 0 by its own lemma, a gap reads 0 in every state, and `h` keeps out the unspecified tables. -/
theorem rst_readReg (s : State) {off : Nat}
    (h : off < 0x800 ∨ (0x1800 ≤ off ∧ off < 0x2000) ∨ (0x3800 ≤ off ∧ off < 0x3860)) :
    s.rst.readReg off = if off = 0x054 then 64 else 0 := by
  by_cases hcore : off % 4 = 0 ∧ off < 0x100
  · rw [← rst_readCore s off, State.readReg, if_neg (not_not.mpr hcore.1), if_pos hcore.2]
  · rw [if_neg (by omega)]
    unfold State.readReg
    refine ite_eq_iff'.mpr ⟨fun _ => rfl, fun _ => ?_⟩
    refine ite_eq_iff'.mpr ⟨fun _ => by omega, fun _ => ?_⟩
    refine ite_eq_iff'.mpr ⟨fun _ => rst_bufBase s _, fun _ => ?_⟩
    refine ite_eq_iff'.mpr ⟨fun _ => rfl, fun _ => ?_⟩
    refine ite_eq_iff'.mpr ⟨fun _ => by rw [rst_chan, chanZero_readReg], fun _ => ?_⟩
    refine ite_eq_iff'.mpr ⟨fun _ => rfl, fun _ => ?_⟩
    refine ite_eq_iff'.mpr ⟨fun _ => rst_bmpWord s _, fun _ => ?_⟩
    refine ite_eq_iff'.mpr ⟨fun _ => rfl, fun _ => ?_⟩
    refine ite_eq_iff'.mpr ⟨fun _ => by omega, fun _ => ?_⟩
    refine ite_eq_iff'.mpr ⟨fun _ => by omega, fun _ => ?_⟩
    refine ite_eq_iff'.mpr ⟨fun _ => by rw [rst_dcSum]; exact ite_self 0, fun _ => ?_⟩
    refine ite_eq_iff'.mpr ⟨fun _ => by omega, fun _ => ?_⟩
    refine ite_eq_iff'.mpr ⟨fun _ => rfl, fun _ => ?_⟩
    refine ite_eq_iff'.mpr ⟨fun _ => by omega, fun _ => ?_⟩
    refine ite_eq_iff'.mpr ⟨fun _ => rfl, fun _ => ?_⟩
    exact ite_eq_iff'.mpr ⟨fun _ => by rw [rst_outDesc, outDescZero_readReg], fun _ => rfl⟩

/-- Settles O10: the registers by `rst_readReg`, the rest of the next state as `State.rst` sets it. -/
theorem resetEvent : Obligations.ResetEvent := fun s =>
  ⟨s.rst, rfl, fun _ => rst_readReg s, rfl, rfl, rfl, rst_irq s, rst_chan s, rfl, rfl⟩

end Sys2Proof.Proofs.Reset
end

section
/-! SUPPORT. The encoding (R111 to R117): the fields of a command's word, and the command a word's fields stand for. -/

namespace Sys2Proof.Proofs.Encoding

/- One theorem at a time, as in the tests: elaborated side by side they hold a thread and its stack each. -/
set_option Elab.async false

/-! ## Fields and words -/

/-- A word is its three fields side by side (R111). -/
theorem eq_of_fields (w : Word) : BitVec.ofNat 32 (opcOf w * 2 ^ 24 + selOf w * 2 ^ 16 + immOf w) = w := by
  apply BitVec.eq_of_toNat_eq
  simp only [opcOf, selOf, immOf, BitVec.toNat_ofNat]
  omega

/-- The fields of a word put together from fields that fit (R111). -/
theorem fields_of_word {opc sel imm : Nat} (hopc : opc < 2 ^ 8) (hsel : sel < 2 ^ 8) (himm : imm < 2 ^ 16) :
    opcOf (BitVec.ofNat 32 (opc * 2 ^ 24 + sel * 2 ^ 16 + imm)) = opc
      ∧ selOf (BitVec.ofNat 32 (opc * 2 ^ 24 + sel * 2 ^ 16 + imm)) = sel
      ∧ immOf (BitVec.ofNat 32 (opc * 2 ^ 24 + sel * 2 ^ 16 + imm)) = imm := by
  simp only [opcOf, selOf, immOf, BitVec.toNat_ofNat]
  omega

theorem immOf_lt (w : Word) : immOf w < 2 ^ 16 := Nat.mod_lt _ (by decide)

/-! ## The fields of a command fit -/

theorem opcode_lt (i : Instr) : i.opcode < 2 ^ 8 := by
  cases i <;> simp [Instr.opcode]

/-- The sub-fields of WIN.GEN leave the bits of `SEL` from 3 up zero (R115). -/
theorem winGen_selector_lt (t : WinTable) (k : WinKind) : tableBits t + 2 * kindBits k < 2 ^ 3 := by
  cases t <;> cases k <;> decide

theorem selector_lt {i : Instr} (h : i.wellFormed = true) : i.selector < 2 ^ 8 := by
  cases i with
  | winGen t k => exact (winGen_selector_lt t k).trans (by decide)
  | dmaCfg p nullSrc nullDst prio ien =>
    have hp : p < 2 ^ 4 := of_decide_eq_true h
    have h1 := nullSrc.toNat_le
    have h2 := nullDst.toNat_le
    have h3 := prio.toNat_le
    have h4 := ien.toNat_le
    simp only [Instr.selector]
    omega
  | dmaStart p | dmaRetrig p | dmaWait p => exact (of_decide_eq_true h : p < 2 ^ 4).trans (by decide)
  | _ => exact Nat.two_pow_pos 8

theorem immediate_lt {i : Instr} (h : i.wellFormed = true) : i.immediate < 2 ^ 16 := by
  cases i with
  | bmpSet n | bmpTest n | cfarRng n | angleObj n | xyEst n => exact of_decide_eq_true h
  | _ => exact Nat.two_pow_pos 16

/-- The fields of a well-formed command's word are the command's (R111). -/
theorem fields_encode {i : Instr} (h : i.wellFormed = true) :
    opcOf (encode i) = i.opcode ∧ selOf (encode i) = i.selector ∧ immOf (encode i) = i.immediate :=
  fields_of_word (opcode_lt i) (selector_lt h) (immediate_lt h)

/-! ## Decoding what was encoded -/

/-- The sub-fields of WIN.GEN are read back (R115). -/
theorem winGen_fields (t : WinTable) (k : WinKind) :
    tableOf (tableBits t + 2 * kindBits k) = t ∧ kindOf (tableBits t + 2 * kindBits k) = k := by
  cases t <;> cases k <;> exact ⟨rfl, rfl⟩

/-- The sub-fields of DMA.CFG are read back (R115). -/
theorem dmaCfg_fields {p : Nat} (hp : p < 2 ^ 4) (a b c d : Bool) :
    let sel := p + 2 ^ 4 * a.toNat + 2 ^ 5 * b.toNat + 2 ^ 6 * c.toNat + 2 ^ 7 * d.toNat
    channelOf sel = p ∧ selBit sel 4 = a ∧ selBit sel 5 = b ∧ selBit sel 6 = c ∧ selBit sel 7 = d := by
  have ha := a.toNat_le
  have hb := b.toNat_le
  have hc := c.toNat_le
  have hd := d.toNat_le
  have bit {n : Nat} {f : Bool} (h : n % 2 = f.toNat) : decide (n % 2 = 1) = f := by
    cases f <;> simp [h]
  exact ⟨by simp only [channelOf]; omega, bit (by omega), bit (by omega), bit (by omega), bit (by omega)⟩

/-- Settles O1: the word's fields are the command's, and each row of R114 reads its sub-fields back. -/
theorem decodeOfEncode : Obligations.DecodeOfEncode := by
  intro i h
  obtain ⟨hopc, hsel, himm⟩ := fields_encode h
  simp only [decode, hopc, hsel, himm]
  cases i with
  | winGen t k =>
    obtain ⟨ht, hk⟩ := winGen_fields t k
    have hlt := winGen_selector_lt t k
    simp only [Instr.opcode, Instr.selector, Instr.immediate, formatS, ht, hk]
    exact if_pos ⟨Nat.div_eq_of_lt hlt, trivial⟩
  | dmaCfg p a b c d =>
    have hp : p < 2 ^ 4 := of_decide_eq_true h
    obtain ⟨hch, ha, hb, hc, hd⟩ := dmaCfg_fields hp a b c d
    have hlt := selector_lt h
    simp only [Instr.opcode, Instr.selector, Instr.immediate, formatS, hch, ha, hb, hc, hd] at hlt ⊢
    exact if_pos ⟨Nat.div_eq_of_lt hlt, trivial⟩
  | dmaStart p | dmaRetrig p | dmaWait p =>
    have hp : p < 2 ^ 4 := of_decide_eq_true h
    simp only [Instr.opcode, Instr.selector, Instr.immediate, formatS, channelOf, Nat.mod_eq_of_lt hp]
    exact if_pos ⟨Nat.div_eq_of_lt hp, trivial⟩
  | _ => rfl

/-! ## The word of what was decoded -/

/-- The command `i` is well formed and has the fields of the word `w`. -/
def HasFieldsOf (w : Word) (i : Instr) : Prop :=
  i.wellFormed = true ∧ i.opcode = opcOf w ∧ i.selector = selOf w ∧ i.immediate = immOf w

/-- A command with the fields of a word is encoded as that word. -/
theorem HasFieldsOf.encode_eq {w : Word} {i : Instr} (h : HasFieldsOf w i) : encode i = w := by
  obtain ⟨-, hopc, hsel, himm⟩ := h
  rw [encode, hopc, hsel, himm, eq_of_fields]

section
variable {w : Word} {i j : Instr}

/-- Format `Z` accepts a word only with both fields zero (R113). -/
theorem formatZ_ok (h : formatZ (selOf w) (immOf w) j = .ok i) (hj : j.wellFormed = true) (hopc : opcOf w = j.opcode)
    (hsel : j.selector = 0) (himm : j.immediate = 0) : HasFieldsOf w i := by
  unfold formatZ at h
  split at h
  · next hz =>
    obtain rfl := Except.ok.inj h
    exact ⟨hj, hopc.symm, hsel.trans hz.1.symm, himm.trans hz.2.symm⟩
  · cases h

/-- Format `I` accepts a word only with `SEL` zero (R113). -/
theorem formatI_ok {f : Nat → Instr} (h : formatI (selOf w) (immOf w) f = .ok i)
    (hf : ∀ n, (f n).wellFormed = decide (n < 2 ^ 16) ∧ (f n).selector = 0 ∧ (f n).immediate = n)
    (hopc : opcOf w = (f (immOf w)).opcode) : HasFieldsOf w i := by
  unfold formatI at h
  split at h
  · next hz =>
    obtain rfl := Except.ok.inj h
    obtain ⟨hwf, hsel, himm⟩ := hf (immOf w)
    exact ⟨by rw [hwf, decide_eq_true_eq]; exact immOf_lt w, hopc.symm, hsel.trans hz.symm, himm⟩
  · cases h

/-- Format `S` accepts a word only with `IMM` and the unused bits of `SEL` zero (R113, R115). -/
theorem formatS_ok {unused : Nat} (h : formatS (selOf w) (immOf w) unused j = .ok i)
    (hj : j.wellFormed = true) (hopc : opcOf w = j.opcode)
    (hsel : selOf w < 2 ^ unused → j.selector = selOf w) (himm : j.immediate = 0) : HasFieldsOf w i := by
  unfold formatS at h
  split at h
  · next hz =>
    obtain rfl := Except.ok.inj h
    have hlt : selOf w < 2 ^ unused := (Nat.div_eq_zero_iff_lt (Nat.two_pow_pos _)).mp hz.1
    exact ⟨hj, hopc.symm, hsel hlt, himm.trans hz.2.symm⟩
  · cases h

end

/-- The sub-fields of WIN.GEN put together again (R115). -/
theorem winGen_selector {sel : Nat} (h : sel < 2 ^ 3) : tableBits (tableOf sel) + 2 * kindBits (kindOf sel) = sel := by
  revert sel
  decide

/-- A bit of `SEL` as a number. -/
theorem toNat_selBit (sel b : Nat) : (selBit sel b).toNat = sel / 2 ^ b % 2 := by
  unfold selBit
  rcases Nat.mod_two_eq_zero_or_one (sel / 2 ^ b) with h | h <;> simp [h]

/-- The sub-fields of DMA.CFG put together again (R115). -/
theorem dmaCfg_selector {sel : Nat} (h : sel < 2 ^ 8) :
    channelOf sel + 2 ^ 4 * (selBit sel 4).toNat + 2 ^ 5 * (selBit sel 5).toNat + 2 ^ 6 * (selBit sel 6).toNat
      + 2 ^ 7 * (selBit sel 7).toNat = sel := by
  simp only [toNat_selBit, channelOf]
  omega

theorem channelOf_lt (sel : Nat) : channelOf sel < 2 ^ 4 := Nat.mod_lt _ (by decide)

/-- The command a word decodes to has the word's fields: one row of R114 after the other. -/
theorem hasFieldsOf_of_decode {w : Word} {i : Instr} (h : decode w = .ok i) : HasFieldsOf w i := by
  have hP := channelOf_lt (selOf w)
  have hS : selOf w < 2 ^ 4 → channelOf (selOf w) = selOf w := Nat.mod_eq_of_lt
  unfold decode at h
  split at h
  case h_9 hopc => exact formatS_ok h rfl hopc winGen_selector rfl
  case h_13 hopc => exact formatS_ok h (decide_eq_true hP) hopc dmaCfg_selector rfl
  case h_14 hopc | h_15 hopc | h_16 hopc => exact formatS_ok h (decide_eq_true hP) hopc hS rfl
  case h_6 hopc | h_7 hopc | h_18 hopc | h_20 hopc | h_21 hopc => exact formatI_ok h (fun _ => ⟨rfl, rfl, rfl⟩) hopc
  case h_25 => cases h
  all_goals exact formatZ_ok h rfl ‹opcOf w = _› rfl rfl

/-- Settles O2: the command has the word's fields, so its word is that word. -/
theorem acceptedWordsAreEncodings : Obligations.AcceptedWordsAreEncodings := fun _ _ h =>
  have hfields := hasFieldsOf_of_decode h
  ⟨hfields.1, hfields.encode_eq⟩

/-- Settles O3: the decoder evaluated on the printed words. -/
theorem printedWordsDecode : Obligations.PrintedWordsDecode :=
  ⟨rfl, rfl, rfl, rfl, rfl, rfl, rfl, rfl, rfl⟩

end Sys2Proof.Proofs.Encoding
end

section
/-! SUPPORT. The relations that the sequencer's work carries, body by body: each lemma names the updates of the state a body is
made of, and any relation they keep is kept by the body. What a command leaves unchanged, and what every step preserves, are
instances. -/

namespace Sys2Proof.Proofs.Carry

open Sys2Proof.Machine

set_option Elab.async false

variable {R : State → State → Prop} {α : Type}

/-! ## Bodies without their join points -/

/-- The Doppler item: the next fetch, where there is one, then the rest (R323). -/
theorem dopItem_eq (idx : Nat) : dopItem idx = get >>= fun s =>
    (if idx + 1 < s.dopItems then dopFetch s (idx + 1) else pure ()) >>= fun _ =>
      readC16s (s.buf (6 + idx % 2)) s.nd >>= fun x =>
        wrC32 (s.heatAddr (idx / s.nv) (idx % s.nv)) (listGet (s.dopplerFft x) 0 Cx.zero) >>= fun _ =>
          modify fun t =>
            { t with
              frameScr := { t.frameScr with
                acc := accumulate (idx % s.nv == 0) s.nd t.frameScr.acc (s.dopplerFft x) }
              window := t.window.close (s.placeOf 13) } := by
  unfold dopItem
  congr 1
  funext s
  split <;> rfl

/-- The line to process after the one at hand: the bitmap's next, its fetch started, or none (R326). -/
def nextLine (s : State) (j : Nat) : Seqr Nat :=
  if j + 1 < s.frameScr.lines then
    bmpAdvance >>= fun d => lineFetch s (j + 1) d >>= fun _ => pure d
  else pure s.frameScr.dcur

/-- The line: the next fetch, where there is one, then the body of CFAR.RNG (R326). -/
theorem lineItem_eq (j : Nat) : lineItem j = get >>= fun s => nextLine s j >>= fun dnext =>
    cfarRngLine (s.buf (10 + j % 2)) s.frameScr.dcur >>= fun _ =>
      modify fun t => { t with frameScr := { t.frameScr with dcur := dnext } } := by
  unfold lineItem nextLine
  congr 1
  funext s
  split
  · simp only [bind_assoc, pure_bind]
  · rfl

/-- The antenna: the next fetch, where there is one, then the transform (R232 step 4). -/
theorem chirpAntenna_eq (rx : Nat) : chirpAntenna rx = get >>= fun s =>
    (if rx + 1 < s.nrx then dmaRetrig ((rx + 1) % 2) (s.adcAddr (rx + 1) 0) (s.buf ((rx + 1) % 2)) else pure ()) >>= fun _ =>
      readC16s (s.buf (rx % 2)) s.ns >>= fun x =>
        dcStep (s.rangeFft x) s.chirpScr.tx rx s.chirpScr.acc s.chirpScr.sub >>= fun X =>
          writeC16s (s.buf (2 + s.chirpSlot) + 4 * (rx * s.nr)) X := by
  unfold chirpAntenna
  congr 1
  funext s
  split <;> rfl

/-- A channel found stops the work with `DMA_PROTOCOL` (R132, R135). -/
def refuseChan : Option Nat → Seqr Unit
  | some p => raise .dmaProtocol p
  | none => pure ()

@[simp] theorem refuseChan_none (s : State) : refuseChan none s = .ok () s := rfl

@[simp] theorem refuseChan_some (p : Nat) (s : State) : refuseChan (some p) s = .error ⟨.dmaProtocol, p⟩ s := rfl

/-- CFG.COMMIT: the busy channels, the two lists of checks, the latch, the pipeline, the mode (R132, R134). -/
theorem cfgCommitBody_eq : cfgCommitBody = get >>= fun s =>
    refuseChan (s.leastChan (fun c => c.xfer.isBusy) (List.range 12)) >>= fun _ =>
      raiseFound (firstFailure s.stg.checks) >>= fun _ =>
        raiseFound (firstFailure (s.stg.layoutChecks s.spaces)) >>= fun _ =>
          modify State.latch >>= fun _ => programPipeline (List.range 11) >>= fun _ =>
            modify fun t => { t.setChan 11 Chan.zero with mode := .configured } := by
  unfold cfgCommitBody
  congr 1
  funext s
  change (match s.leastChan (fun c => c.xfer.isBusy) (List.range 12) with | some p => _ | none => _ : Seqr Unit) = _
  cases s.leastChan (fun c => c.xfer.isBusy) (List.range 12) <;> rfl

/-- RUN.START: the two windows, the channels, the counters, the pipeline, the mode (R135). -/
theorem runStartBody_eq : runStartBody = get >>= fun s =>
    require s.winOk1D .cfgWindow 0 >>= fun _ => require s.winOk2D .cfgWindow 1 >>= fun _ =>
      refuseChan (s.leastChan (fun c => !c.xfer.isIdle) (List.range 12)) >>= fun _ =>
        modify State.beginRun >>= fun _ => programPipeline (List.range 11) >>= fun _ =>
          modify fun t => { t with mode := .running } := by
  unfold runStartBody
  congr 1
  funext s
  congr 1
  funext _
  congr 1
  funext _
  change (match s.leastChan (fun c => !c.xfer.isIdle) (List.range 12) with | some p => _ | none => _ : Seqr Unit) = _
  cases s.leastChan (fun c => !c.xfer.isIdle) (List.range 12) <;> rfl

/-! ## Memory -/

section
variable (h : Carried R)
include h

theorem carries_aligned (addr n : Nat) : Carries R (aligned addr n) := carries_require h _ _ _

theorem carries_rdU16 (addr : Nat) : Carries R (rdU16 addr) :=
  carries_bind h (carries_aligned h _ _) fun _ => carries_memRead h _ _

theorem carries_rdU64 (addr : Nat) : Carries R (rdU64 addr) :=
  carries_bind h (carries_aligned h _ _) fun _ => carries_memRead h _ _

theorem carries_rdC16 (addr : Nat) : Carries R (rdC16 addr) :=
  carries_bind h (carries_aligned h _ _) fun _ => carries_bind h (carries_memRead h _ _) fun _ => carries_pure h _

theorem carries_rdC32 (addr : Nat) : Carries R (rdC32 addr) :=
  carries_bind h (carries_aligned h _ _) fun _ => carries_bind h (carries_memRead h _ _) fun _ => carries_pure h _

theorem carries_readC16s (src n : Nat) : Carries R (readC16s src n) := carries_readEach h (fun _ => carries_rdC16 h _) _

theorem carries_readC32s (src n : Nat) : Carries R (readC32s src n) := carries_readEach h (fun _ => carries_rdC32 h _) _

theorem carries_readU16s (src n : Nat) : Carries R (readU16s src n) := carries_readEach h (fun _ => carries_rdU16 h _) _

/-- A store at one place, where the relation is known to survive the bytes stored there. -/
theorem carries_memWrite_at {addr n : Nat} (hw : ∀ s bs, bs.length = n → R s (s.wrBytes .sequencer addr bs)) (v : Nat)
    (hlen : (leBytes n v).length = n) : Carries R (memWrite addr n v) :=
  carries_bind h (carries_get h) fun _ => carries_bind h (carries_require h _ _ _) fun _ =>
    carries_modify fun s => hw s _ hlen

end

theorem length_leBytes (n v : Nat) : (leBytes n v).length = n := by
  induction n generalizing v with
  | zero => rfl
  | succ n ih => rw [leBytes, List.length_cons, ih]

/-- Each element written at its own place. -/
theorem carries_writeEach_at (h : Carried R) {f : Nat → α → Seqr Unit} (l : List α) (i : Nat)
    (hf : ∀ k x, k < l.length → Carries R (f (i + k) x)) : Carries R (writeEach f i l) := by
  induction l generalizing i with
  | nil => exact carries_pure h _
  | cons x l ih =>
    refine carries_bind h (hf 0 x (by simp)) fun _ => ih (i + 1) fun k y hk => ?_
    have hnext := hf (k + 1) y (by simpa using hk)
    rwa [← Nat.add_assoc, Nat.add_right_comm] at hnext

section
variable (h : Carried R) (hw : ∀ s a bs, R s (s.wrBytes .sequencer a bs))
include h hw

theorem carries_wrU16 (addr v : Nat) : Carries R (wrU16 addr v) :=
  carries_bind h (carries_aligned h _ _) fun _ => carries_memWrite h hw _ _ _

theorem carries_wrC16 (addr : Nat) (z : Cx) : Carries R (wrC16 addr z) :=
  carries_bind h (carries_aligned h _ _) fun _ => carries_memWrite h hw _ _ _

theorem carries_wrC32 (addr : Nat) (z : Cx) : Carries R (wrC32 addr z) :=
  carries_bind h (carries_aligned h _ _) fun _ => carries_memWrite h hw _ _ _

theorem carries_writeC16s (dst : Nat) (xs : List Cx) : Carries R (writeC16s dst xs) :=
  carries_writeEach h (fun _ _ => carries_wrC16 h hw _ _) _ _

theorem carries_writeC32s (dst : Nat) (xs : List Cx) : Carries R (writeC32s dst xs) :=
  carries_writeEach h (fun _ _ => carries_wrC32 h hw _ _) _ _

/-! ## Transforms (R176 to R178) -/

theorem carries_fft1dBody : Carries R fft1dBody :=
  carries_bind h (carries_get h) fun _ => carries_bind h (carries_require h _ _ _) fun _ =>
    carries_bind h (carries_readC16s h _ _) fun _ => carries_writeC16s h hw _ _

theorem carries_fft2dBody : Carries R fft2dBody :=
  carries_bind h (carries_get h) fun _ => carries_bind h (carries_require h _ _ _) fun _ =>
    carries_bind h (carries_readC16s h _ _) fun _ => carries_writeC32s h hw _ _

theorem carries_fft3dBody : Carries R fft3dBody :=
  carries_bind h (carries_get h) fun _ =>
    carries_bind h (carries_readC32s h _ _) fun _ => carries_writeC32s h hw _ _

end

/-! ## Channels (R205 to R209, R215) -/

section
variable (h : Carried R) (hchan : ∀ s p c, R s (s.setChan p c))
include h

theorem carries_channelExists (p : Nat) : Carries R (channelExists p) := carries_require h _ _ _

theorem carries_refuseChan (found : Option Nat) : Carries R (refuseChan found) := by
  cases found with
  | none => exact carries_pure h _
  | some p => exact carries_raise h _ _

include hchan

theorem carries_dmaStart (p : Nat) : Carries R (dmaStart p) :=
  carries_bind h (carries_channelExists h _) fun _ => carries_bind h (carries_get h) fun _ =>
    carries_bind h (carries_require h _ _ _) fun _ => carries_bind h (carries_require h _ _ _) fun _ =>
      carries_bind h (carries_require h _ _ _) fun _ => carries_modify fun _ => hchan _ _ _

theorem carries_dmaRetrig (p src dst : Nat) : Carries R (dmaRetrig p src dst) :=
  carries_bind h (carries_channelExists h _) fun _ => carries_bind h (carries_get h) fun _ =>
    carries_bind h (carries_require h _ _ _) fun _ => carries_bind h (carries_require h _ _ _) fun _ =>
      carries_bind h (carries_modify fun _ => hchan _ _ _) fun _ => carries_dmaStart h hchan _

theorem carries_dmaRetrigBody (p : Nat) : Carries R (dmaRetrigBody p) :=
  carries_bind h (carries_get h) fun _ => carries_dmaRetrig h hchan _ _ _

theorem carries_dmaCfgBody (p : Nat) (a b c d : Bool) : Carries R (dmaCfgBody p a b c d) :=
  carries_bind h (carries_channelExists h _) fun _ => carries_bind h (carries_get h) fun _ =>
    carries_bind h (carries_require h _ _ _) fun _ => carries_bind h (carries_require h _ _ _) fun _ =>
      carries_modify fun _ => hchan _ _ _

theorem carries_awaitThen (p : Nat) (q : Pos) {k : Seqr Flow} (hk : Carries R k) : Carries R (awaitThen p q k) :=
  carries_bind h (carries_channelExists h _) fun _ => carries_bind h (carries_get h) fun _ =>
    carries_ite _ (carries_bind h (carries_modify fun _ => hchan _ _ _) fun _ => hk) (carries_pure h _)

theorem program_related (ps : List Nat) (s : State) : R s (s.program ps) := by
  induction ps generalizing s with
  | nil => exact h.refl s
  | cons p ps ih => exact h.trans _ _ _ (hchan _ _ _) (ih _)

theorem carries_programPipeline (ps : List Nat) : Carries R (programPipeline ps) := by
  refine carries_bind h (carries_get h) fun s => ?_
  split
  · exact carries_raise h _ _
  · exact carries_modify fun t => program_related h hchan ps t

end

/-! ## Control (R132 to R136) -/

section
variable (h : Carried R)
include h

theorem carries_raiseFound (f : Option Fatal) : Carries R (raiseFound f) := by
  cases f with
  | none => exact carries_pure h _
  | some f => exact carries_raise h _ _

theorem carries_cfgCommitBody (hchan : ∀ s p c, R s (s.setChan p c)) (hlatch : ∀ s : State, R s s.latch)
    (hmode : ∀ s : State, R s { s with mode := .configured }) : Carries R cfgCommitBody := by
  rw [cfgCommitBody_eq]
  exact carries_bind h (carries_get h) fun _ => carries_bind h (carries_refuseChan h _) fun _ =>
    carries_bind h (carries_raiseFound h _) fun _ => carries_bind h (carries_raiseFound h _) fun _ =>
      carries_bind h (carries_modify hlatch) fun _ => carries_bind h (carries_programPipeline h hchan _) fun _ =>
        carries_modify fun t => h.trans _ _ _ (hchan t 11 Chan.zero) (hmode _)

theorem carries_runStartBody (hchan : ∀ s p c, R s (s.setChan p c)) (hbegin : ∀ s : State, R s s.beginRun)
    (hmode : ∀ s : State, R s { s with mode := .running }) : Carries R runStartBody := by
  rw [runStartBody_eq]
  exact carries_bind h (carries_get h) fun _ => carries_bind h (carries_require h _ _ _) fun _ =>
    carries_bind h (carries_require h _ _ _) fun _ => carries_bind h (carries_refuseChan h _) fun _ =>
      carries_bind h (carries_modify hbegin) fun _ => carries_bind h (carries_programPipeline h hchan _) fun _ =>
        carries_modify hmode

theorem carries_stopDrain (hchan : ∀ s p c, R s (s.setChan p c)) (hend : ∀ s : State, R s s.endRun) (ps : List Nat) :
    Carries R (stopDrain ps) := by
  induction ps with
  | nil => exact carries_bind h (carries_modify hend) fun _ => carries_pure h _
  | cons p ps ih =>
    exact carries_bind h (carries_get h) fun _ => carries_ite _ ih (carries_awaitThen h hchan _ _ ih)

theorem carries_runStopBody (hchan : ∀ s p c, R s (s.setChan p c)) (hend : ∀ s : State, R s s.endRun)
    (htoken : ∀ s : State, R s { s with chirpToken := false }) : Carries R runStopBody :=
  carries_bind h (carries_modify htoken) fun _ => carries_stopDrain h hchan hend _

/-! ## Bitmap and windows (R150 to R154, R162) -/

theorem carries_bmpAdvance (hcur : ∀ (s : State) v, R s { s with bmpCursor := v }) : Carries R bmpAdvance := by
  refine carries_bind h (carries_get h) fun s => ?_
  split
  · exact carries_raise h _ _
  · exact carries_bind h (carries_modify fun _ => hcur _ _) fun _ => carries_pure h _

omit h in
theorem carries_setRes0 (hres : ∀ (s : State) v, R s { s with res0 := v }) (v : Nat) : Carries R (setRes0 v) :=
  carries_modify fun _ => hres _ _

omit h in
theorem carries_setRes1 (hres : ∀ (s : State) v, R s { s with res1 := v }) (v : Nat) : Carries R (setRes1 v) :=
  carries_modify fun _ => hres _ _

theorem carries_bmpSetBody (hmark : ∀ (s : State) i, R s (s.bmpMark i)) (i : Nat) : Carries R (bmpSetBody i) :=
  carries_bind h (carries_get h) fun _ => carries_bind h (carries_require h _ _ _) fun _ => carries_modify fun _ => hmark _ _

theorem carries_bmpTestBody (hres : ∀ (s : State) v, R s { s with res0 := v }) (i : Nat) : Carries R (bmpTestBody i) :=
  carries_bind h (carries_get h) fun _ => carries_bind h (carries_require h _ _ _) fun _ => carries_setRes0 hres _

theorem carries_bmpNextBody (hcur : ∀ (s : State) v, R s { s with bmpCursor := v })
    (hres : ∀ (s : State) v, R s { s with res0 := v }) : Carries R bmpNextBody :=
  carries_bind h (carries_bmpAdvance h hcur) fun _ => carries_setRes0 hres _

theorem carries_winGenBody {table : WinTable} (kind : WinKind)
    (hgen : ∀ (s : State) len gen q, R s (s.generate table kind len gen q)) : Carries R (winGenBody table kind) :=
  carries_bind h (carries_get h) fun _ => carries_bind h (carries_require h _ _ _) fun _ =>
    carries_bind h (carries_require h _ _ _) fun _ => carries_bind h (carries_require h _ _ _) fun _ =>
      carries_bind h (carries_require h _ _ _) fun _ => carries_modify fun _ => hgen _ _ _ _

/-! ## Detection and grouping (R255, R256, R271) -/

theorem bmpMarkAll_related (hmark : ∀ (s : State) i, R s (s.bmpMark i)) (l : List Nat) (s : State) : R s (s.bmpMarkAll l) := by
  induction l generalizing s with
  | nil => exact h.refl s
  | cons i l ih => exact h.trans _ _ _ (hmark _ _) (ih _)

theorem carries_cfarDopBody (hmark : ∀ (s : State) i, R s (s.bmpMark i))
    (hres : ∀ (s : State) v, R s { s with res0 := v }) : Carries R cfarDopBody :=
  carries_bind h (carries_get h) fun _ => carries_bind h (carries_readU16s h _ _) fun _ =>
    carries_bind h (carries_modify fun _ => bmpMarkAll_related h hmark _ _) fun _ => carries_setRes0 hres _

theorem addRaws_related (hraw : ∀ (s : State) r d p, R s (s.addRaw r d p)) (d : Nat) (x l : List Nat) (s : State) :
    R s (s.addRaws d x l) := by
  induction l generalizing s with
  | nil => exact h.refl s
  | cons i l ih => exact h.trans _ _ _ (hraw _ _ _ _) (ih _)

theorem carries_cfarRngLine (hraw : ∀ (s : State) r d p, R s (s.addRaw r d p)) (src d : Nat) : Carries R (cfarRngLine src d) :=
  carries_bind h (carries_get h) fun _ => carries_bind h (carries_require h _ _ _) fun _ =>
    carries_bind h (carries_readU16s h _ _) fun _ =>
      carries_bind h (carries_modify fun _ => addRaws_related h hraw _ _ _ _) fun _ => carries_pure h _

theorem carries_cfarRngBody (hraw : ∀ (s : State) r d p, R s (s.addRaw r d p))
    (hres0 : ∀ (s : State) v, R s { s with res0 := v }) (hres1 : ∀ (s : State) v, R s { s with res1 := v }) (d : Nat) :
    Carries R (cfarRngBody d) :=
  carries_bind h (carries_get h) fun _ => carries_bind h (carries_cfarRngLine h hraw _ _) fun _ =>
    carries_bind h (carries_setRes0 hres0 _) fun _ => carries_setRes1 hres1 _

theorem carries_groupKernel (r d : Nat) (off : Int × Int) : Carries R (groupKernel r d off) :=
  carries_bind h (carries_get h) fun _ =>
    carries_ite _ (carries_pure h _) (carries_ite _ (carries_pure h _) (carries_rdU16 h _))

theorem carries_groupKeeps (r d : Nat) (offs : List (Int × Int)) : Carries R (groupKeeps r d offs) := by
  induction offs with
  | nil => exact carries_pure h _
  | cons off offs ih =>
    exact carries_bind h (carries_groupKernel h _ _ _) fun _ => carries_bind h (carries_groupKernel h _ _ _) fun _ =>
      carries_bind h ih fun _ => carries_pure h _

theorem carries_groupOne (hobj : ∀ (s : State) o, R s (s.addObj o).1) (o : RawObj) : Carries R (groupOne o) :=
  carries_bind h (carries_get h) fun _ => carries_ite _ (carries_pure h _)
    (carries_bind h (carries_groupKeeps h _ _ _) fun _ =>
      carries_ite _ (carries_modify fun _ => hobj _ _) (carries_pure h _))

theorem carries_groupRun (hzero : ∀ s : State, R s { s with numObjOut := 0 }) (hobj : ∀ (s : State) o, R s (s.addObj o).1) :
    Carries R groupRun := by
  refine carries_bind h (carries_modify hzero) fun _ => carries_bind h (carries_get h) fun s => ?_
  induction s.rawList with
  | nil => exact carries_pure h _
  | cons o l ih => exact carries_bind h (carries_groupOne h hobj o) fun _ => ih

theorem carries_pkgrpBody (hzero : ∀ s : State, R s { s with numObjOut := 0 })
    (hobj : ∀ (s : State) o, R s (s.addObj o).1) (hres : ∀ (s : State) v, R s { s with res0 := v }) : Carries R pkgrpBody :=
  carries_bind h (carries_groupRun h hzero hobj) fun _ => carries_bind h (carries_get h) fun _ => carries_setRes0 hres _

/-! ## Angle (R291, R297) -/

theorem carries_xyEstBody (hres0 : ∀ (s : State) v, R s { s with res0 := v })
    (hres1 : ∀ (s : State) v, R s { s with res1 := v }) (r : Nat) : Carries R (xyEstBody r) :=
  carries_bind h (carries_get h) fun _ => carries_bind h (carries_require h _ _ _) fun _ =>
    carries_bind h (carries_readEach h (fun _ => carries_rdU64 h _) _) fun _ =>
      carries_bind h (carries_setRes0 hres0 _) fun _ => carries_setRes1 hres1 _

/-- An estimate written is an object rewritten and, for a second peak, one appended (R291). -/
theorem placeXy_related (hset : ∀ (s : State) i o, R s { s with objOut := tabSet s.objOut i o })
    (hobj : ∀ (s : State) o, R s (s.addObj o).1) (s : State) (i : Nat) (est : (Int × Int) × Option (Int × Int)) :
    R s (s.placeXy i est).1 := by
  obtain ⟨xy, second⟩ := est
  cases second with
  | none => exact hset s i _
  | some xy2 => exact h.trans _ _ _ (hset s i _) (hobj _ _)

variable (hset : ∀ (s : State) i o, R s { s with objOut := tabSet s.objOut i o }) (hobj : ∀ (s : State) o, R s (s.addObj o).1)
include hset hobj

theorem carries_angleWrite (i : Nat) (est : (Int × Int) × Option (Int × Int)) : Carries R (angleWrite i est) :=
  fun s => placeXy_related h hset hobj s i est

theorem carries_angleFetched (i : Nat) : Carries R (angleFetched i) :=
  carries_bind h (carries_get h) fun _ =>
    carries_bind h
      (carries_readEach h (fun _ => carries_bind h (carries_get h) fun _ =>
        carries_bind h (carries_readC16s h _ _) fun _ => carries_pure h _) _)
      fun _ => carries_angleWrite h hset hobj _ _

theorem carries_angleRun (hchan : ∀ s p c, R s (s.setChan p c)) (i : Nat) (resume : Pos) {k : Nat → Seqr Flow}
    (hk : ∀ a, Carries R (k a)) : Carries R (angleRun i resume k) :=
  carries_bind h (carries_get h) fun _ => carries_bind h (carries_require h _ _ _) fun _ =>
    carries_ite _ (carries_bind h (carries_angleWrite h hset hobj _ _) hk)
      (carries_bind h (carries_require h _ _ _) fun _ => carries_bind h (carries_programPipeline h hchan _) fun _ =>
        carries_bind h (carries_dmaRetrig h hchan _ _ _) fun _ =>
          carries_awaitThen h hchan _ _ (carries_bind h (carries_angleFetched h hset hobj _) hk))

theorem carries_angleResume (hres : ∀ (s : State) v, R s { s with res0 := v }) (i : Nat) : Carries R (angleResume i) :=
  carries_bind h (carries_angleFetched h hset hobj _) fun _ =>
    carries_bind h (carries_setRes0 hres _) fun _ => carries_pure h _

end

/-! ## Output (R330) -/

section
variable (h : Carried R) (hdesc : ∀ (s : State) v, R s { s with outDesc := v })
include h hdesc

/-- A payload is followed by the next entry's number: the same, or one more. -/
theorem carries_payload_then {sel : Bool} {work : Seqr Unit} {d : OutDesc} {k : Nat} {f : Nat → Seqr Unit}
    (hwork : Carries R work) (hf : ∀ j, j ≤ k + 1 → Carries R (f j)) : Carries R (payload sel work d k >>= f) := by
  have hvalue : payload sel work d k
      = if sel = true then work >>= fun _ => modify (fun t => { t with outDesc := tabSet t.outDesc k d }) >>= fun _ => pure (k + 1)
        else pure k := rfl
  cases sel with
  | false => rw [hvalue, if_neg (by decide), pure_bind]; exact hf k (by omega)
  | true =>
    rw [hvalue, if_pos rfl, bind_assoc]
    refine carries_bind h hwork fun _ => ?_
    rw [bind_assoc]
    exact carries_bind h (carries_modify fun _ => hdesc _ _) fun _ => by rw [pure_bind]; exact hf _ le_rfl

/-- The four payloads that are stored, each carried, carry the whole assembly. -/
theorem carries_assembleOutput_of (hdrop : ∀ s : State, R s s.drop) (hpub : ∀ (s : State) k, k ≤ 6 → R s (s.publish k))
    {s : State} (hobjs : Carries R (writeEach (fun j v => wrU16 (s.buf 16 + 2 * j) v) 0 s.objFields))
    (hprofile : Carries R (copyRangeProfile s (List.range s.nr))) (hnoise : Carries R (writeNoiseProfile s))
    (hstats : Carries R (writeEach (fun j v => memWrite (s.buf 17 + 4 * j) 4 v) 0 s.statsWords)) :
    R s (endState (assembleOutput s)) := by
  have hbody : assembleOutput s = (if s.logAvail = true then _ else modify State.drop : Seqr Unit) s := rfl
  rw [hbody]
  split
  · exact carries_payload_then h hdesc hobjs (fun _ _ => carries_payload_then h hdesc hprofile fun _ _ =>
      carries_payload_then h hdesc hnoise fun _ _ => carries_payload_then h hdesc (carries_pure h _) fun _ _ =>
        carries_payload_then h hdesc (carries_pure h _) fun _ _ => carries_payload_then h hdesc hstats fun _ _ =>
          carries_modify fun _ => hpub _ _ (by omega)) s
  · exact hdrop s

theorem carries_assembleOutput (hw : ∀ s a bs, R s (s.wrBytes .sequencer a bs)) (hdrop : ∀ s : State, R s s.drop)
    (hpub : ∀ (s : State) k, k ≤ 6 → R s (s.publish k)) : Carries R assembleOutput := by
  intro s
  have hcopy : ∀ rs, Carries R (copyRangeProfile s rs) := fun rs => by
    induction rs with
    | nil => exact carries_pure h _
    | cons r rs ih =>
      exact carries_bind h (carries_rdU16 h _) fun _ => carries_bind h (carries_wrU16 h hw _ _) fun _ => ih
  exact carries_assembleOutput_of h hdesc hdrop hpub (carries_writeEach h (fun _ _ => carries_wrU16 h hw _ _) _ _) (hcopy _)
    (carries_bind h (carries_readEach h (fun _ => carries_rdU16 h _) _) fun _ =>
      carries_writeEach h (fun _ _ => carries_wrU16 h hw _ _) _ _)
    (carries_writeEach h (fun _ _ => carries_memWrite h hw _ _ _) _ _)

end

end Sys2Proof.Proofs.Carry
end

section
/-! SUPPORT. What the two sequences (R232, R322), the commands (R114) and a step of the machine (R4) carry and where they lead:
the updates they are made of, once for all relations. -/

namespace Sys2Proof.Proofs.Steps

open Sys2Proof.Machine Sys2Proof.Proofs.Carry

set_option Elab.async false

variable {R : State → State → Prop}

/-! ## The updates of a sequence -/

/-- The relation survives every update the numbered steps are made of, but for those that touch a token, the scratch of a chirp
or the chirp counters. -/
structure SequenceUpdates (R : State → State → Prop) : Prop extends Carried R where
  chan : ∀ s p c, R s (s.setChan p c)
  bytes : ∀ s a bs, R s (s.wrBytes .sequencer a bs)
  dcSum : ∀ (s : State) v, R s { s with dcSum := v }
  dcCount : ∀ (s : State) v, R s { s with dcCount := v }
  window : ∀ (s : State) v, R s { s with window := v }
  bmpWord : ∀ (s : State) v, R s { s with bmpWord := v }
  bmpCursor : ∀ (s : State) v, R s { s with bmpCursor := v }
  frameScr : ∀ (s : State) v, R s { s with frameScr := v }
  noRaw : ∀ s : State, R s { s with numRawObj := 0 }
  noObjs : ∀ s : State, R s { s with numObjOut := 0 }
  addRaw : ∀ (s : State) r d p, R s (s.addRaw r d p)
  addObj : ∀ (s : State) o, R s (s.addObj o).1
  setObj : ∀ (s : State) i o, R s { s with objOut := tabSet s.objOut i o }
  outDesc : ∀ (s : State) v, R s { s with outDesc := v }
  publish : ∀ (s : State) k, k ≤ 6 → R s (s.publish k)
  drop : ∀ s : State, R s s.drop

namespace SequenceUpdates

variable (h : SequenceUpdates R)
include h

theorem bmpMark (s : State) (i : Nat) : R s (s.bmpMark i) := h.bmpWord s _

theorem bmpClear (s : State) : R s s.bmpClear := 
  h.trans s { s with bmpWord := Vector.replicate 32 0 } _ (h.bmpWord s _) (h.bmpCursor _ 0)

theorem frameScr_window (s : State) (x : FrameScratch) (w : Window) : R s { s with frameScr := x, window := w } :=
  h.trans s { s with frameScr := x } _ (h.frameScr s x) (h.window { s with frameScr := x } w)

theorem dmaRetrig (p src dst : Nat) : Carries R (dmaRetrig p src dst) := carries_dmaRetrig h.toCarried h.chan p src dst

theorem await (p : Nat) (q : Pos) {k : Seqr Flow} (hk : Carries R k) : Carries R (awaitThen p q k) :=
  carries_awaitThen h.toCarried h.chan p q hk

/-- A piece of work that then only says where to go on. -/
theorem andThen {m : Seqr Unit} (hm : Carries R m) (f : Flow) : Carries R (m >>= fun _ => pure f) :=
  carries_bind h.toCarried hm fun _ => carries_pure h.toCarried f

theorem dcAccumulate (tx rx : Nat) (X : List Cx) (bs : List Nat) (s : State) : R s (s.dcAccumulate tx rx X bs) := by
  induction bs generalizing s with
  | nil => exact h.refl s
  | cons b bs ih => exact h.trans _ _ _ (h.dcSum s _) (ih _)

theorem dcStep (X : List Cx) (tx rx : Nat) (acc sub : Bool) : Carries R (dcStep X tx rx acc sub) :=
  carries_bind h.toCarried (carries_get h.toCarried) fun _ =>
    carries_ite _
      (carries_bind h.toCarried (carries_modify fun t => h.dcAccumulate _ _ _ _ t) fun _ => carries_pure h.toCarried _)
      (carries_ite _ (carries_pure h.toCarried _) (carries_pure h.toCarried _))

theorem dcMeans (k : Nat) (es : List Nat) (s : State) : R s (s.dcMeans k es) := by
  induction es generalizing s with
  | nil => exact h.refl s
  | cons e es ih => exact h.trans _ _ _ (h.dcSum s _) (ih _)

theorem dcCountUp (s : State) : R s s.dcCountUp := by
  simp only [State.dcCountUp]
  split
  · exact h.trans _ _ _ (h.dcCount s _) (h.dcMeans _ _ _)
  · exact h.dcCount s _

theorem chirpAntenna (rx : Nat) : Carries R (chirpAntenna rx) := by
  rw [chirpAntenna_eq]
  exact carries_bind h.toCarried (carries_get h.toCarried) fun _ =>
    carries_bind h.toCarried (carries_ite _ (h.dmaRetrig _ _ _) (carries_pure h.toCarried _)) fun _ =>
      carries_bind h.toCarried (carries_readC16s h.toCarried _ _) fun _ =>
        carries_bind h.toCarried (h.dcStep _ _ _ _ _) fun _ => carries_writeC16s h.toCarried h.bytes _ _

theorem dopItem (idx : Nat) : Carries R (dopItem idx) := by
  rw [dopItem_eq]
  exact carries_bind h.toCarried (carries_get h.toCarried) fun _ =>
    carries_bind h.toCarried (carries_ite _ (h.dmaRetrig _ _ _) (carries_pure h.toCarried _)) fun _ =>
      carries_bind h.toCarried (carries_readC16s h.toCarried _ _) fun _ =>
        carries_bind h.toCarried (carries_wrC32 h.toCarried h.bytes _ _) fun _ =>
          carries_modify fun t => h.frameScr_window t _ _

theorem dopTail (r : Nat) : Carries R (dopTail r) :=
  carries_bind h.toCarried (carries_get h.toCarried) fun _ =>
    carries_bind h.toCarried (carries_writeEach h.toCarried (fun _ _ => carries_wrU16 h.toCarried h.bytes _ _) _ _) fun _ =>
      carries_bind h.toCarried (carries_modify fun t => bmpMarkAll_related h.toCarried h.bmpMark _ t) fun _ =>
        carries_bind h.toCarried (h.dmaRetrig _ _ _) fun _ => carries_modify fun t => h.window t _

theorem bmpAdvance : Carries R bmpAdvance := carries_bmpAdvance h.toCarried h.bmpCursor

theorem lineItem (j : Nat) : Carries R (lineItem j) := by
  rw [lineItem_eq]
  exact carries_bind h.toCarried (carries_get h.toCarried) fun _ =>
    carries_bind h.toCarried (carries_ite _ (carries_bind h.toCarried h.bmpAdvance fun _ =>
        carries_bind h.toCarried (h.dmaRetrig _ _ _) fun _ => carries_pure h.toCarried _) (carries_pure h.toCarried _)) fun _ =>
      carries_bind h.toCarried (carries_cfarRngLine h.toCarried h.addRaw _ _) fun _ => carries_modify fun t => h.frameScr t _

theorem groupRun : Carries R groupRun := carries_groupRun h.toCarried h.noObjs h.addObj

theorem assembleOutput : Carries R assembleOutput :=
  carries_assembleOutput h.toCarried h.outDesc h.bytes h.drop h.publish

theorem angleFetched (i : Nat) : Carries R (angleFetched i) := carries_angleFetched h.toCarried h.setObj h.addObj i

/-- The per-chirp sequence, with what its steps 1, 7, 8 and 9 do besides (R232). -/
theorem chirpPhase {q : ChirpPos} {byCmd : Bool} (hstart : q = .s1 → ∀ s : State, R s s.chirpStart)
    (hcount : q = .s7 → ∀ s : State, R s { s.moduloChain.1 with chirpScr := { s.chirpScr with last := s.moduloChain.2 } })
    (hframe : q = .s8 ∨ q = .s8second ∨ q = .s8set → ∀ s : State, R s { s with frameToken := true })
    (hend : q = .s9 → ∀ s : State, R s { s with chirpToken := false }) : Carries R (chirpPhase q byCmd) := by
  refine carries_bind h.toCarried (carries_get h.toCarried) fun s => ?_
  have hmark (hq : q = .s8 ∨ q = .s8second ∨ q = .s8set) (f : Flow) :
      Carries R ((modify fun t => { t with frameToken := true } : Seqr Unit) >>= fun _ => pure f) :=
    h.andThen (carries_modify (hframe hq)) f
  cases q with
  | s1 => exact h.andThen (carries_modify (hstart rfl)) _
  | s2 => exact carries_ite _ (h.await _ _ (carries_pure h.toCarried _)) (carries_pure h.toCarried _)
  | s3 => exact h.andThen (h.dmaRetrig _ _ _) _
  | s4 rx => exact h.await _ _ (h.andThen (h.chirpAntenna rx) _)
  | s4body rx => exact h.andThen (h.chirpAntenna rx) _
  | s5 =>
    refine h.andThen (carries_modify fun t => ?_) _
    split
    · exact h.dcCountUp t
    · exact h.refl t
  | s6 =>
    exact carries_bind h.toCarried (h.dmaRetrig _ _ _) fun _ => h.andThen (carries_modify fun t => h.window t _) _
  | s7 => exact h.andThen (carries_modify (hcount rfl)) _
  | s8 =>
    exact carries_ite _ (h.await _ _ (h.await _ _ (hmark (.inl rfl) _))) (carries_pure h.toCarried _)
  | s8second => exact h.await _ _ (hmark (.inr (.inl rfl)) _)
  | s8set => exact hmark (.inr (.inr rfl)) _
  | s9 =>
    exact carries_bind h.toCarried (carries_modify (hend rfl)) fun _ =>
      carries_ite _ (carries_pure h.toCarried _) (carries_pure h.toCarried _)

/-- The inter-frame sequence, with what its step 8 does besides (R322). -/
theorem framePhase {q : FramePos} {byCmd : Bool}
    (hend : q = .s8 → ∀ s : State, R s { s with frameCount := s.frameCount + 1, frameToken := false }) :
    Carries R (framePhase q byCmd) := by
  refine carries_bind h.toCarried (carries_get h.toCarried) fun s => ?_
  have hpure (f : Flow) : Carries R (pure f : Seqr Flow) := carries_pure h.toCarried f
  have hbody (idx : Nat) (f : Flow) (q : Pos) : Carries R (Machine.dopItem idx >>= fun _ =>
      if idx % s.nv + 1 = s.nv then
        if 2 ≤ idx / s.nv then
          awaitThen (6 + idx / s.nv % 2) q (Machine.dopTail (idx / s.nv) >>= fun _ => pure f)
        else Machine.dopTail (idx / s.nv) >>= fun _ => pure f
      else pure f) :=
    carries_bind h.toCarried (h.dopItem idx) fun _ =>
      carries_ite _ (carries_ite _ (h.await _ _ (h.andThen (h.dopTail _) f)) (h.andThen (h.dopTail _) f)) (hpure f)
  cases q with
  | s1 =>
    exact carries_bind h.toCarried
      (carries_modify fun t => h.trans _ _ _ (h.bmpClear t) (h.trans _ _ _ (h.noRaw _) (h.trans _ _ _ (h.noObjs _) (h.window _ _))))
      fun _ => h.andThen (carries_programPipeline h.toCarried h.chan _) _
  | s2start => exact carries_ite _ (h.andThen (h.dmaRetrig _ _ _) _) (hpure _)
  | s2 idx => exact h.await _ _ (hbody idx _ _)
  | s2body idx => exact hbody idx _ _
  | s2tail idx => exact h.andThen (h.dopTail _) _
  | s3 => exact h.await _ _ (h.await _ _ (hpure _))
  | s3second => exact h.await _ _ (hpure _)
  | s4start =>
    exact carries_ite _ (carries_bind h.toCarried h.bmpAdvance fun _ => carries_bind h.toCarried (h.dmaRetrig _ _ _) fun _ =>
      h.andThen (carries_modify fun t => h.frameScr t _) _) (hpure _)
  | s4 j => exact h.await _ _ (h.andThen (h.lineItem j) _)
  | s4body j => exact h.andThen (h.lineItem j) _
  | s5 => exact h.andThen h.groupRun _
  | s6start => exact h.andThen (carries_modify fun t => h.frameScr t _) _
  | s6 i => exact carries_angleRun h.toCarried h.setObj h.addObj h.chan i _ fun _ => hpure _
  | s6body i => exact carries_bind h.toCarried (h.angleFetched i) fun _ => hpure _
  | s7 => exact h.andThen h.assembleOutput _
  | s8 => exact h.andThen (carries_modify (hend rfl)) _

end SequenceUpdates

/-! ## The updates of every command -/

/-- The body of a command, whatever follows it (R114). -/
def bodyOf : Instr → Seqr Flow
  | .nop => thenDone (pure ())
  | .cfgCommit => thenDone cfgCommitBody
  | .runStart => thenDone runStartBody
  | .runStop => runStopBody
  | .bmpReset => thenDone (modify State.bmpClear)
  | .bmpSet i => thenDone (bmpSetBody i)
  | .bmpTest i => thenDone (bmpTestBody i)
  | .bmpNext => thenDone bmpNextBody
  | .winGen table kind => thenDone (winGenBody table kind)
  | .fft1d => thenDone fft1dBody
  | .fft2d => thenDone fft2dBody
  | .fft3d => thenDone fft3dBody
  | .dmaCfg p a b c d => thenDone (dmaCfgBody p a b c d)
  | .dmaStart p => thenDone (dmaStart p)
  | .dmaRetrig p => thenDone (dmaRetrigBody p)
  | .dmaWait p => awaitThen p .complete (pure (.finish true))
  | .cfarDop => thenDone cfarDopBody
  | .cfarRng d => thenDone (cfarRngBody d)
  | .pkgrpRun => thenDone pkgrpBody
  | .angleObj i => angleRun i (.angle i) angleDone
  | .xyEst r => thenDone (xyEstBody r)
  | .chirpProc => chirpProcBody
  | .frameProc => frameProcBody
  | .outAsm => thenDone assembleOutput

/-- Every command is its body run through stages 2 to 5 (R130). -/
theorem exec_eq (i : Instr) (s : State) : exec i s = .next (command i (bodyOf i) s) := by
  cases i <;> rfl

/-- In a mode that admits it a command is its body; in any other it is `CMD_MODE` (R130 stage 2). -/
theorem exec_cases (i : Instr) (s : State) :
    (admitted i s.mode = true ∧ exec i s = .next (settle (bodyOf i) s))
      ∨ (admitted i s.mode = false ∧ exec i s = .next (s.fatal ⟨.cmdMode, i.opcode⟩)) := by
  rw [exec_eq]
  cases h : admitted i s.mode
  · exact .inr ⟨rfl, by rw [command_refused h]⟩
  · exact .inl ⟨rfl, by rw [command_admitted h]⟩

/-- The relation survives every update of a sequence and, besides, the result registers. -/
structure CommandUpdates (R : State → State → Prop) : Prop extends SequenceUpdates R where
  res0 : ∀ (s : State) v, R s { s with res0 := v }
  res1 : ∀ (s : State) v, R s { s with res1 := v }

theorem carries_thenDone (h : Carried R) {body : Seqr Unit} (hb : Carries R body) : Carries R (thenDone body) :=
  carries_bind h hb fun _ => carries_pure h _

/-- Every body, with what the control commands, WIN.GEN and the starts of the sequences do besides. -/
theorem CommandUpdates.bodyOf (h : CommandUpdates R) {i : Instr}
    (hcommit : i = .cfgCommit → (∀ s : State, R s s.latch) ∧ ∀ s : State, R s { s with mode := .configured })
    (hstart : i = .runStart → (∀ s : State, R s s.beginRun) ∧ ∀ s : State, R s { s with mode := .running })
    (hstop : i = .runStop → (∀ s : State, R s s.endRun) ∧ ∀ s : State, R s { s with chirpToken := false })
    (hgen : ∀ table kind, i = .winGen table kind → ∀ (s : State) len gen q, R s (s.generate table kind len gen q))
    (hchirp : i = .chirpProc → ∀ s : State, R s { s with chirpToken := true, lateSamples := [] })
    (hframe : i = .frameProc → ∀ s : State, R s { s with frameToken := true, before := s.tables }) :
    Carries R (bodyOf i) := by
  have hc := h.toCarried
  cases i with
  | nop => exact carries_thenDone hc (carries_pure hc ())
  | cfgCommit => exact carries_thenDone hc (carries_cfgCommitBody hc h.chan (hcommit rfl).1 (hcommit rfl).2)
  | runStart => exact carries_thenDone hc (carries_runStartBody hc h.chan (hstart rfl).1 (hstart rfl).2)
  | runStop => exact carries_runStopBody hc h.chan (hstop rfl).1 (hstop rfl).2
  | bmpReset => exact carries_thenDone hc (carries_modify h.bmpClear)
  | bmpSet i => exact carries_thenDone hc (carries_bmpSetBody hc h.bmpMark i)
  | bmpTest i => exact carries_thenDone hc (carries_bmpTestBody hc h.res0 i)
  | bmpNext => exact carries_thenDone hc (carries_bmpNextBody hc h.bmpCursor h.res0)
  | winGen table kind => exact carries_thenDone hc (carries_winGenBody hc kind (hgen table kind rfl))
  | fft1d => exact carries_thenDone hc (carries_fft1dBody hc h.bytes)
  | fft2d => exact carries_thenDone hc (carries_fft2dBody hc h.bytes)
  | fft3d => exact carries_thenDone hc (carries_fft3dBody hc h.bytes)
  | dmaCfg p a b c d => exact carries_thenDone hc (carries_dmaCfgBody hc h.chan p a b c d)
  | dmaStart p => exact carries_thenDone hc (carries_dmaStart hc h.chan p)
  | dmaRetrig p => exact carries_thenDone hc (carries_dmaRetrigBody hc h.chan p)
  | dmaWait p => exact h.await p _ (carries_pure hc _)
  | cfarDop => exact carries_thenDone hc (carries_cfarDopBody hc h.bmpMark h.res0)
  | cfarRng d => exact carries_thenDone hc (carries_cfarRngBody hc h.addRaw h.res0 h.res1 d)
  | pkgrpRun => exact carries_thenDone hc (carries_pkgrpBody hc h.noObjs h.addObj h.res0)
  | angleObj i =>
    exact carries_angleRun hc h.setObj h.addObj h.chan i _ fun _ =>
      carries_bind hc (carries_setRes0 h.res0 _) fun _ => carries_pure hc _
  | xyEst r => exact carries_thenDone hc (carries_xyEstBody hc h.res0 h.res1 r)
  | chirpProc =>
    refine carries_bind hc (carries_get hc) fun s => ?_
    cases s.chirpFault with
    | none => exact h.andThen (carries_modify (hchirp rfl)) _
    | some f => exact carries_raise hc _ _
  | frameProc =>
    exact carries_bind hc (carries_get hc) fun _ => carries_bind hc (carries_require hc _ _ _) fun _ =>
      h.andThen (carries_modify (hframe rfl)) _
  | outAsm => exact carries_thenDone hc h.assembleOutput

/-! ## Where a piece of work leads (R25) -/

/-- Wherever the work ends without a Fatal, it leads to a flow with the property. -/
def Leads (P : Flow → Prop) (m : Seqr Flow) : Prop := ∀ s f t, m s = .ok f t → P f

section
variable {P : Flow → Prop} {α : Type}

theorem leads_pure {f : Flow} (hf : P f) : Leads P (pure f) := by
  intro s g t hg
  cases hg
  exact hf

theorem leads_bind {m : Seqr α} {k : α → Seqr Flow} (hk : ∀ a, Leads P (k a)) : Leads P (m >>= k) := by
  intro s f t h
  rw [seqr_bind] at h
  cases hm : m s with
  | ok a u => exact hk a u f t (by rwa [hm] at h)
  | error e u => rw [hm] at h; cases h

theorem leads_ite (c : Prop) [Decidable c] {m n : Seqr Flow} (hm : Leads P m) (hn : Leads P n) :
    Leads P (if c then m else n) := by
  split
  · exact hm
  · exact hn

/-- A wait leads to itself or on. -/
theorem leads_await {p : Nat} {q : Pos} {k : Seqr Flow} (hwait : P (.wait p q)) (hk : Leads P k) : Leads P (awaitThen p q k) :=
  leads_bind fun _ => leads_bind fun _ => leads_ite _ (leads_bind fun _ => hk) (leads_pure hwait)

theorem leads_thenDone {body : Seqr Unit} (h : P (.finish true)) : Leads P (thenDone body) := leads_bind fun _ => leads_pure h

theorem leads_angleRun {i : Nat} {q : Pos} {k : Nat → Seqr Flow} (hwait : P (.wait 10 q)) (hk : ∀ a, Leads P (k a)) :
    Leads P (angleRun i q k) :=
  leads_bind fun _ => leads_bind fun _ => leads_ite _ (leads_bind hk)
    (leads_bind fun _ => leads_bind fun _ => leads_bind fun _ => leads_await hwait (leads_bind hk))

end

/-- A flow to a place of the per-chirp sequence other than its end. -/
def InChirp (byCmd : Bool) : Flow → Prop
  | .pos (.chirp q b) | .wait _ (.chirp q b) => q ≠ .s9 ∧ b = byCmd
  | .finish _ | .pos .complete | .pos (.stop _) | .pos (.angle _) | .pos (.frame _ _) => False
  | .wait _ .complete | .wait _ (.stop _) | .wait _ (.angle _) | .wait _ (.frame _ _) => False

/-- Before step 8 the per-chirp sequence stays within itself (R232). -/
theorem chirpPhase_leads {q : ChirpPos} {byCmd : Bool} (hq : q ≠ .s8 ∧ q ≠ .s8second ∧ q ≠ .s8set ∧ q ≠ .s9) :
    Leads (InChirp byCmd) (chirpPhase q byCmd) := by
  refine leads_bind fun s => ?_
  obtain ⟨h8, h8second, h8set, h9⟩ := hq
  have hnext (rx : Nat) : InChirp byCmd (.pos (.chirp (if rx + 1 < s.nrx then .s4 (rx + 1) else .s5) byCmd)) := by
    split <;> exact ⟨nofun, rfl⟩
  cases q with
  | s1 => exact leads_bind fun _ => leads_pure ⟨nofun, rfl⟩
  | s2 => exact leads_ite _ (leads_await ⟨nofun, rfl⟩ (leads_pure ⟨nofun, rfl⟩)) (leads_pure ⟨nofun, rfl⟩)
  | s3 =>
    refine leads_bind fun _ => leads_pure ?_
    change InChirp byCmd (.pos (.chirp (if 0 < s.nrx then .s4 0 else .s5) byCmd))
    split <;> exact ⟨nofun, rfl⟩
  | s4 rx => exact leads_await ⟨nofun, rfl⟩ (leads_bind fun _ => leads_pure (hnext rx))
  | s4body rx => exact leads_bind fun _ => leads_pure (hnext rx)
  | s5 | s7 => exact leads_bind fun _ => leads_pure ⟨nofun, rfl⟩
  | s6 => exact leads_bind fun _ => leads_bind fun _ => leads_pure ⟨nofun, rfl⟩
  | s8 => exact absurd rfl h8
  | s8second => exact absurd rfl h8second
  | s8set => exact absurd rfl h8set
  | s9 => exact absurd rfl h9

/-- A flow to a place of the inter-frame sequence. -/
def InFrame (byCmd : Bool) : Flow → Prop
  | .pos (.frame _ b) | .wait _ (.frame _ b) => b = byCmd
  | .finish _ | .pos .complete | .pos (.stop _) | .pos (.angle _) | .pos (.chirp _ _) => False
  | .wait _ .complete | .wait _ (.stop _) | .wait _ (.angle _) | .wait _ (.chirp _ _) => False

/-- Before its last step the inter-frame sequence stays within itself (R322). -/
theorem framePhase_leads {q : FramePos} {byCmd : Bool} (hq : q ≠ .s8) : Leads (InFrame byCmd) (framePhase q byCmd) := by
  refine leads_bind fun s => ?_
  have htail (r : Nat) (q' : FramePos) : Leads (InFrame byCmd) (dopTail r >>= fun _ => pure (.pos (.frame q' byCmd))) :=
    leads_bind fun _ => leads_pure rfl
  have hitem (idx : Nat) (q' q'' : FramePos) : Leads (InFrame byCmd) (dopItem idx >>= fun _ =>
      if idx % s.nv + 1 = s.nv then
        if 2 ≤ idx / s.nv then
          awaitThen (6 + idx / s.nv % 2) (.frame q'' byCmd) (dopTail (idx / s.nv) >>= fun _ => pure (.pos (.frame q' byCmd)))
        else dopTail (idx / s.nv) >>= fun _ => pure (.pos (.frame q' byCmd))
      else pure (.pos (.frame q' byCmd))) :=
    leads_bind fun _ => leads_ite _ (leads_ite _ (leads_await rfl (htail _ _)) (htail _ _)) (leads_pure rfl)
  cases q with
  | s1 => exact leads_bind fun _ => leads_bind fun _ => leads_pure rfl
  | s2start => exact leads_ite _ (leads_bind fun _ => leads_pure rfl) (leads_pure rfl)
  | s2 idx => exact leads_await rfl (hitem idx _ _)
  | s2body idx => exact hitem idx _ _
  | s2tail idx => exact htail _ _
  | s3 => exact leads_await rfl (leads_await rfl (leads_pure rfl))
  | s3second => exact leads_await rfl (leads_pure rfl)
  | s4start =>
    exact leads_ite _ (leads_bind fun _ => leads_bind fun _ => leads_bind fun _ => leads_pure rfl) (leads_pure rfl)
  | s4 j => exact leads_await rfl (leads_bind fun _ => leads_pure rfl)
  | s4body j | s5 | s6start | s6body i | s7 => exact leads_bind fun _ => leads_pure rfl
  | s6 i => exact leads_angleRun rfl fun _ => leads_pure rfl
  | s8 => exact absurd rfl hq

/-! ## One step of the machine (R4) -/

/-- The state in which the agent that a step chose moves: the agenda moved on, the step counted. -/
def counted (s : State) (rest : List Action) : State := { s with agenda := rest, tick := s.tick + 1 }

/-- A step is a step of the agent the environment named, or of an agent of the block, or there is none. -/
theorem step_cases {s t : State} (h : step s = .next t) :
    t = s ∨ ∃ a rest, act a (counted s rest) = .next t
      ∧ (s.agenda.head? = some a ∨ s.agenda = [] ∧ (a = .seq ∨ ∃ p, a = .dma p)) := by
  unfold step at h
  split at h
  · next a rest hagenda => exact .inr ⟨a, rest, h, .inl (by rw [hagenda]; rfl)⟩
  · next hagenda =>
    split at h
    · cases h
      exact .inl rfl
    · refine .inr ⟨agentOf (Config.nextAgent s.tick), [], ?_, .inr ⟨hagenda, ?_⟩⟩
      · rw [counted, ← hagenda]
        exact h
      · unfold agentOf
        split
        · exact .inl rfl
        · exact .inr ⟨_, rfl⟩

/-- What the sequencer's step can be (R25, R364). -/
theorem seqStep_cases {s t : State} (h : seqStep s = .next t) :
    t = s ∨ (s.seq = .idle ∧ s.mode = .running ∧ s.chirpToken = true ∧ t = { s with seq := .pos (.chirp .s1 false) })
      ∨ (∃ w i, s.seq = .cmd w ∧ decode w = .ok i ∧ exec i s = .next t)
      ∨ (∃ w, s.seq = .cmd w ∧ t = s.fatal (illegal w))
      ∨ (∃ q, s.seq = .pos q ∧ t = settle (runPos q) s)
      ∨ (∃ p q, s.seq = .wait p q ∧ t = { s.consume p with seq := .pos q }) := by
  unfold seqStep at h
  split at h
  · exact .inl (Host.Outcome.next.inj h).symm
  · next hseq =>
    split at h
    · next hrun => exact .inr (.inl ⟨hseq, hrun.1, hrun.2, (Host.Outcome.next.inj h).symm⟩)
    · exact .inl (Host.Outcome.next.inj h).symm
  · next w hseq =>
    split at h
    · next i hdec => exact .inr (.inr (.inl ⟨w, i, hseq, hdec, h⟩))
    · exact .inr (.inr (.inr (.inl ⟨w, hseq, (Host.Outcome.next.inj h).symm⟩)))
  · next q hseq => exact .inr (.inr (.inr (.inr (.inl ⟨q, hseq, (Host.Outcome.next.inj h).symm⟩))))
  · next p q hseq =>
    split at h
    · exact .inr (.inr (.inr (.inr (.inr ⟨p, q, hseq, (Host.Outcome.next.inj h).symm⟩))))
    · exact .inl (Host.Outcome.next.inj h).symm

/-- A relation carried by a body survives the command (R130). -/
theorem exec_related (h : Carried R) {i : Instr} (hb : Carries R (bodyOf i)) (hseq : ∀ (s : State) q, R s { s with seq := q })
    (hdone : ∀ s : State, R s s.complete) (hfatal : ∀ (s : State) f, R s (s.fatal f)) {s t : State} (ht : exec i s = .next t) :
    R s t := by
  rcases exec_cases i s with ⟨-, heq⟩ | ⟨-, heq⟩
  · rw [heq] at ht
    exact Host.Outcome.next.inj ht ▸ settle_carries h hb hseq hdone hfatal s
  · rw [heq] at ht
    exact Host.Outcome.next.inj ht ▸ hfatal s _

end Sys2Proof.Proofs.Steps
end

section
/-! SUPPORT. The invariants of every step (R21, R33, R36, R43, R131, R240, R352, R355): each is a relation that the updates of
the block keep, and the few updates that do more are argued by themselves. -/

namespace Sys2Proof.Proofs.Invariants

open Sys2Proof.Machine Sys2Proof.Claim Sys2Proof.Proofs.Nop Sys2Proof.Proofs.Carry Sys2Proof.Proofs.Steps

set_option Elab.async false

variable {R : State → State → Prop}

/-! ## What the other agents can do -/

theorem deliver_related (h : Carried R) {who : Agent} (hbytes : ∀ (s : State) a bs, R s (s.wrBytes who a bs)) (stride : Nat)
    (xs : List (List Byte)) (a : Nat) (s : State) : R s (s.deliver who stride a xs) := by
  induction xs generalizing s a with
  | nil => exact h.refl s
  | cons x xs ih => exact h.trans _ _ _ (hbytes s a x) (ih _ _)

/-- The perform step of a channel is made of bytes, the channel's flags, the record of races, an interrupt bit or a Fatal. -/
theorem perform_related (h : Carried R) (hbytes : ∀ (s : State) who a bs, who ≠ .host → R s (s.wrBytes who a bs))
    (hchan : ∀ s p c, R s (s.setChan p c)) (hraced : ∀ (s : State) v, R s { s with raced := v })
    (hirq : ∀ (s : State) b, R s (s.raiseIrq b)) (hfatal : ∀ (s : State) f, R s (s.fatal f)) (s : State) (p : Nat) :
    R s (s.perform p) := by
  have hflags (u : State) (d : Descr) : R u (u.finishTransfer p d) := by
    have hdone := h.trans _ _ _ (hchan u p { u.chan p with xfer := .done d })
      (hraced _ ((u.setChan p { u.chan p with xfer := .done d }).raced.filter fun x => x.1 != p))
    simp only [State.finishTransfer]
    split
    · exact h.trans _ _ _ hdone (hirq _ _)
    · exact hdone
  rcases perform_cases s p with heq | ⟨d, -, -, -, heq⟩ | ⟨d, -, -, -, heq⟩
  · rw [heq]
    exact h.refl s
  · rw [heq]
    have hbytes' (u : State) (a : Nat) (bs : List Byte) : R u (u.wrBytes (.channel p) a bs) := hbytes u _ a bs nofun
    exact h.trans _ _ _ (deliver_related h hbytes' d.dstride.toNat (s.fetch p d) d.dst.toNat s) (hflags _ d)
  · rw [heq]
    exact hfatal s _

/-- What a write of a register other than `CMD` can be (R21, R22). -/
theorem writeReg_cases (s : State) (off : Nat) (w : Word) :
    (∃ v, s.writeReg off w = { s with waitMode := v }) ∨ (∃ v past, s.writeReg off w = { s with arg := v, argPast := past })
      ∨ (off = 0x030 ∧ s.writeReg off w = s.clearIrq w) ∨ s.writeReg off w = { s with irqEnable := w &&& irqMask }
      ∨ (∃ v, s.writeReg off w = { s with logAvail := v }) ∨ ∃ c, s.writeReg off w = { s with stg := c } := by
  generalize heq : s.writeReg off w = t
  unfold State.writeReg at heq
  split at heq
  · exact .inl ⟨_, heq.symm⟩
  split at heq
  · exact .inr (.inl ⟨_, _, heq.symm⟩)
  split at heq
  · exact .inr (.inr (.inl ⟨‹_›, heq.symm⟩))
  split at heq
  · exact .inr (.inr (.inr (.inl heq.symm)))
  split at heq
  · exact .inr (.inr (.inr (.inr (.inl ⟨_, heq.symm⟩))))
  split at heq
  · exact .inr (.inr (.inr (.inr (.inr ⟨_, heq.symm⟩))))
  · exact .inr (.inr (.inr (.inr (.inr ⟨_, heq.symm⟩))))

/-- What a host write can be (R21, R28): nothing, a Fatal, an accepted command, or a register. -/
theorem busWrite_cases (s : State) (off : Nat) (w : Word) :
    s.busWrite off w = s ∨ (∃ f, s.busWrite off w = s.fatal f)
      ∨ (s.mode ≠ .halted ∧ s.seq.busy = false
          ∧ s.busWrite off w = { s with seq := .cmd w, argPast := Vector.replicate 6 [] })
      ∨ s.busWrite off w = s.writeReg off w := by
  generalize heq : s.busWrite off w = t
  unfold State.busWrite at heq
  split at heq
  · exact .inl heq.symm
  split at heq
  · unfold State.acceptCmd at heq
    split at heq
    · exact .inl heq.symm
    split at heq
    · exact .inr (.inl ⟨_, heq.symm⟩)
    · next hm hbusy => exact .inr (.inr (.inl ⟨hm, by simpa using hbusy, heq.symm⟩))
  · exact .inr (.inr (.inr heq.symm))

/-- What a chirp-available event can be (R357). -/
theorem chirpEvent_cases (s : State) :
    s.chirpEvent = s ∨ (∃ f, s.chirpEvent = s.fatal f) ∨ s.chirpEvent = { s with chirpToken := true, lateSamples := [] } := by
  unfold State.chirpEvent
  split
  · split
    · exact .inr (.inl ⟨_, rfl⟩)
    · exact .inr (.inr rfl)
  · exact .inl rfl

/-- What a memory-port access that answers can be (R82). -/
theorem act_memRead {addr : Word} {n : Nat} {s t : State} (h : act (.memRead addr n) s = .next t) :
    t = { s with memData := s.hostBytes addr.toNat n } := by
  change (if s.spaces.hostAdmits false addr.toNat n then _ else _) = _ at h
  split at h
  · exact (Host.Outcome.next.inj h).symm
  · cases h

theorem act_memWrite {addr : Word} {bs : List Byte} {s t : State} (h : act (.memWrite addr bs) s = .next t) :
    t = s.wrBytes .host addr.toNat bs := by
  change (if s.spaces.hostAdmits true addr.toNat bs.length then _ else _) = _ at h
  split at h
  · exact (Host.Outcome.next.inj h).symm
  · cases h

/-- A piece of work that raised ends in the Fatal; one that ended moves the sequencer on or completes the command (R130). -/
theorem settle_cases (body : Seqr Flow) (s : State) :
    (∃ f t, body s = .error f t ∧ settle body s = t.fatal f)
      ∨ ∃ f t, body s = .ok f t ∧ ((∃ q, settle body s = { t with seq := q }) ∨ settle body s = t.complete) := by
  unfold settle
  split <;> rename_i heq
  · exact .inr ⟨_, _, heq, .inr rfl⟩
  · exact .inr ⟨_, _, heq, .inl ⟨_, rfl⟩⟩
  · exact .inr ⟨_, _, heq, .inl ⟨_, rfl⟩⟩
  · exact .inr ⟨_, _, heq, .inl ⟨_, rfl⟩⟩
  · exact .inl ⟨_, _, heq, rfl⟩

/-! ## The store (R21, R33, R45, R54) -/

/-- The step keeps what the store keeps. -/
def KeepsStore (s t : State) : Prop := StoreInv s → StoreInv t

theorem carried_keepsStore : Carried KeepsStore := ⟨fun _ h => h, fun _ _ _ h1 h2 h => h2 (h1 h)⟩

/-- Updates that leave the store's fields alone keep it. -/
theorem keepsStore_of_eq {s t : State} (hmem : t.mem = s.mem) (hstatus : t.irqStatus = s.irqStatus)
    (henable : t.irqEnable = s.irqEnable) (hraw : t.numRawObj = s.numRawObj) (hobj : t.numObjOut = s.numObjOut)
    (hdesc : t.numOutDesc = s.numOutDesc) : KeepsStore s t := by
  rw [KeepsStore, StoreInv, StoreInv, hmem, hstatus, henable, hraw, hobj, hdesc]
  exact id

/-- Setting bits that are not reserved leaves the reserved ones 0. -/
theorem reserved_or {x y : Word} (hx : x &&& ~~~0x0FFF000F = 0) : (x ||| (y &&& irqMask)) &&& ~~~0x0FFF000F = 0 := by
  have hy : (y &&& irqMask) &&& ~~~0x0FFF000F = 0 := by
    rw [BitVec.and_assoc]
    exact BitVec.and_zero
  rw [BitVec.and_or_distrib_right, hx, hy]
  rfl

theorem reserved_and {x : Word} (y : Word) (hx : x &&& ~~~0x0FFF000F = 0) : (x &&& y) &&& ~~~0x0FFF000F = 0 := by
  rw [BitVec.and_assoc, BitVec.and_comm y, ← BitVec.and_assoc, hx]
  exact BitVec.zero_and

theorem keepsStore_raiseIrq (s : State) (b : Nat) : KeepsStore s (s.raiseIrq b) :=
  fun ⟨hmem, hstatus, hrest⟩ => ⟨hmem, reserved_or hstatus, hrest⟩

theorem keepsStore_fatal (s : State) (f : Fatal) : KeepsStore s (s.fatal f) :=
  carried_keepsStore.trans _ _ _ (keepsStore_of_eq rfl rfl rfl rfl rfl rfl) (keepsStore_raiseIrq _ _)

theorem keepsStore_complete (s : State) : KeepsStore s s.complete :=
  carried_keepsStore.trans _ _ _ (keepsStore_of_eq rfl rfl rfl rfl rfl rfl) (keepsStore_raiseIrq _ _)

theorem keepsStore_wrBytes (s : State) (who : Agent) (a : Nat) (bs : List Byte) : KeepsStore s (s.wrBytes who a bs) := by
  rintro ⟨hmem, hrest⟩
  rw [StoreInv, wrBytes_irqStatus, wrBytes_irqEnable, wrBytes_numRawObj, wrBytes_numObjOut, wrBytes_numOutDesc]
  exact ⟨wrBytes_wf s who a bs hmem, hrest⟩

/-- A count below its bound may be counted up. -/
theorem toNat_succ_le {n : Word} {m : Nat} (h : n.toNat < m) : (n + 1).toNat ≤ m := by
  rw [BitVec.toNat_add]
  exact (Nat.mod_le _ _).trans h

theorem keepsStore_addRaw (s : State) (r d p : Nat) : KeepsStore s (s.addRaw r d p) := by
  unfold State.addRaw
  split
  · next hroom =>
    exact fun ⟨hmem, hstatus, henable, _, hrest⟩ => ⟨hmem, hstatus, henable, toNat_succ_le hroom, hrest⟩
  · exact keepsStore_of_eq rfl rfl rfl rfl rfl rfl

theorem keepsStore_addObj (s : State) (o : ObjOut) : KeepsStore s (s.addObj o).1 := by
  unfold State.addObj
  split
  · next hroom =>
    exact fun ⟨hmem, hstatus, henable, hraw, _, hdesc⟩ =>
      ⟨hmem, hstatus, henable, hraw, toNat_succ_le hroom, hdesc⟩
  · exact keepsStore_of_eq rfl rfl rfl rfl rfl rfl

theorem keepsStore_publish (s : State) {k : Nat} (hk : k ≤ 6) : KeepsStore s (s.publish k) := by
  rintro ⟨hmem, hstatus, henable, hraw, hobj, -⟩
  refine ⟨hmem, reserved_or hstatus, henable, hraw, hobj, ?_⟩
  change (BitVec.ofNat 32 k).toNat ≤ 6
  rw [BitVec.toNat_ofNat]
  exact (Nat.mod_le _ _).trans hk

theorem keepsStore_drop (s : State) : KeepsStore s s.drop :=
  fun ⟨hmem, hstatus, henable, hraw, hobj, _⟩ => ⟨hmem, reserved_or hstatus, henable, hraw, hobj, Nat.zero_le _⟩

theorem commandUpdates_keepsStore : CommandUpdates KeepsStore where
  toCarried := carried_keepsStore
  chan _ _ _ := keepsStore_of_eq rfl rfl rfl rfl rfl rfl
  bytes s a bs := keepsStore_wrBytes s _ a bs
  dcSum _ _ := keepsStore_of_eq rfl rfl rfl rfl rfl rfl
  dcCount _ _ := keepsStore_of_eq rfl rfl rfl rfl rfl rfl
  window _ _ := keepsStore_of_eq rfl rfl rfl rfl rfl rfl
  bmpWord _ _ := keepsStore_of_eq rfl rfl rfl rfl rfl rfl
  bmpCursor _ _ := keepsStore_of_eq rfl rfl rfl rfl rfl rfl
  frameScr _ _ := keepsStore_of_eq rfl rfl rfl rfl rfl rfl
  noRaw _ := fun ⟨hmem, hstatus, henable, _, hrest⟩ => ⟨hmem, hstatus, henable, Nat.zero_le _, hrest⟩
  noObjs _ := fun ⟨hmem, hstatus, henable, hraw, _, hdesc⟩ => ⟨hmem, hstatus, henable, hraw, Nat.zero_le _, hdesc⟩
  addRaw := keepsStore_addRaw
  addObj := keepsStore_addObj
  setObj _ _ _ := keepsStore_of_eq rfl rfl rfl rfl rfl rfl
  outDesc _ _ := keepsStore_of_eq rfl rfl rfl rfl rfl rfl
  publish s _ hk := keepsStore_publish s hk
  drop := keepsStore_drop
  res0 _ _ := keepsStore_of_eq rfl rfl rfl rfl rfl rfl
  res1 _ _ := keepsStore_of_eq rfl rfl rfl rfl rfl rfl

theorem keepsStore_latch (s : State) : KeepsStore s s.latch :=
  fun ⟨hmem, hstatus, henable, _, _, _⟩ => ⟨hmem, hstatus, henable, Nat.zero_le _, Nat.zero_le _, Nat.zero_le _⟩

theorem keepsStore_generate (s : State) (table : WinTable) (kind : WinKind) (len gen : Nat) (q : Word) :
    KeepsStore s (s.generate table kind len gen q) := by
  cases table <;> exact keepsStore_of_eq rfl rfl rfl rfl rfl rfl

theorem keepsStore_exec {i : Instr} {s t : State} (h : exec i s = .next t) : KeepsStore s t := by
  refine exec_related carried_keepsStore (commandUpdates_keepsStore.bodyOf ?_ ?_ ?_ ?_ ?_ ?_)
    (fun _ _ => keepsStore_of_eq rfl rfl rfl rfl rfl rfl) keepsStore_complete keepsStore_fatal h
  · exact fun _ => ⟨keepsStore_latch, fun _ => keepsStore_of_eq rfl rfl rfl rfl rfl rfl⟩
  · exact fun _ => ⟨fun _ => keepsStore_of_eq rfl rfl rfl rfl rfl rfl, fun _ => keepsStore_of_eq rfl rfl rfl rfl rfl rfl⟩
  · exact fun _ => ⟨fun _ => keepsStore_of_eq rfl rfl rfl rfl rfl rfl, fun _ => keepsStore_of_eq rfl rfl rfl rfl rfl rfl⟩
  · exact fun table kind _ s => keepsStore_generate s table kind
  · exact fun _ _ => keepsStore_of_eq rfl rfl rfl rfl rfl rfl
  · exact fun _ _ => keepsStore_of_eq rfl rfl rfl rfl rfl rfl

/-- The modulo chain leaves the store's fields alone. -/
theorem keepsStore_moduloChain (s : State) :
    KeepsStore s { s.moduloChain.1 with chirpScr := { s.chirpScr with last := s.moduloChain.2 } } := by
  rw [ModuloChain.moduloChain_frame s]
  exact keepsStore_of_eq rfl rfl rfl rfl rfl rfl

theorem keepsStore_runPos (q : Pos) : Carries KeepsStore (runPos q) := by
  have hup := commandUpdates_keepsStore
  cases q with
  | complete => exact carries_pure carried_keepsStore _
  | stop p =>
    exact carries_stopDrain carried_keepsStore hup.chan (fun _ => keepsStore_of_eq rfl rfl rfl rfl rfl rfl) _
  | angle i => exact carries_angleResume carried_keepsStore hup.setObj hup.addObj hup.res0 i
  | chirp q byCmd =>
    exact hup.chirpPhase (fun _ _ => keepsStore_of_eq rfl rfl rfl rfl rfl rfl) (fun _ => keepsStore_moduloChain)
      (fun _ _ => keepsStore_of_eq rfl rfl rfl rfl rfl rfl) (fun _ _ => keepsStore_of_eq rfl rfl rfl rfl rfl rfl)
  | frame q byCmd => exact hup.framePhase fun _ _ => keepsStore_of_eq rfl rfl rfl rfl rfl rfl

theorem keepsStore_seqStep {s t : State} (h : seqStep s = .next t) : KeepsStore s t := by
  rcases seqStep_cases h with rfl | ⟨-, -, -, rfl⟩ | ⟨w, i, -, -, hexec⟩ | ⟨w, -, rfl⟩ | ⟨q, -, rfl⟩ | ⟨p, q, -, rfl⟩
  · exact id
  · exact keepsStore_of_eq rfl rfl rfl rfl rfl rfl
  · exact keepsStore_exec hexec
  · exact keepsStore_fatal _ _
  · exact settle_carries carried_keepsStore (keepsStore_runPos q) (fun _ _ => keepsStore_of_eq rfl rfl rfl rfl rfl rfl)
      keepsStore_complete keepsStore_fatal s
  · exact keepsStore_of_eq rfl rfl rfl rfl rfl rfl

theorem keepsStore_busWrite (s : State) (off : Nat) (w : Word) : KeepsStore s (s.busWrite off w) := by
  rcases busWrite_cases s off w with heq | ⟨f, heq⟩ | ⟨-, -, heq⟩ | heq <;> rw [heq]
  · exact id
  · exact keepsStore_fatal _ _
  · exact keepsStore_of_eq rfl rfl rfl rfl rfl rfl
  · rcases writeReg_cases s off w with ⟨v, heq⟩ | ⟨v, past, heq⟩ | ⟨-, heq⟩ | heq | ⟨v, heq⟩ | ⟨c, heq⟩ <;> rw [heq]
    · exact keepsStore_of_eq rfl rfl rfl rfl rfl rfl
    · exact keepsStore_of_eq rfl rfl rfl rfl rfl rfl
    · exact fun ⟨hmem, hstatus, hrest⟩ => ⟨hmem, reserved_and _ hstatus, hrest⟩
    · exact fun ⟨hmem, hstatus, _, hrest⟩ => ⟨hmem, hstatus, by rw [BitVec.and_assoc]; exact BitVec.and_zero, hrest⟩
    · exact keepsStore_of_eq rfl rfl rfl rfl rfl rfl
    · exact keepsStore_of_eq rfl rfl rfl rfl rfl rfl

theorem keepsStore_act {a : Action} {s t : State} (h : act a s = .next t) : KeepsStore s t := by
  cases a with
  | seq => exact keepsStore_seqStep h
  | dma p =>
    obtain rfl := Host.Outcome.next.inj h
    exact perform_related carried_keepsStore (fun u who a bs _ => keepsStore_wrBytes u who a bs) commandUpdates_keepsStore.chan
      (fun _ _ => keepsStore_of_eq rfl rfl rfl rfl rfl rfl) keepsStore_raiseIrq keepsStore_fatal s p
  | regRead off =>
    obtain rfl := Host.Outcome.next.inj h
    exact keepsStore_of_eq rfl rfl rfl rfl rfl rfl
  | regWrite off w =>
    obtain rfl := Host.Outcome.next.inj h
    exact keepsStore_busWrite s off w
  | memRead addr n =>
    obtain rfl := act_memRead h
    exact keepsStore_of_eq rfl rfl rfl rfl rfl rfl
  | memWrite addr bs =>
    obtain rfl := act_memWrite h
    exact keepsStore_wrBytes s _ _ bs
  | chirp =>
    obtain rfl := Host.Outcome.next.inj h
    rcases chirpEvent_cases s with heq | ⟨f, heq⟩ | heq <;> rw [heq]
    · exact id
    · exact keepsStore_fatal _ _
    · exact keepsStore_of_eq rfl rfl rfl rfl rfl rfl
  | reset =>
    obtain rfl := Host.Outcome.next.inj h
    exact fun ⟨hmem, _⟩ => ⟨hmem, BitVec.zero_and, BitVec.zero_and, Nat.zero_le _, Nat.zero_le _, Nat.zero_le _⟩

/-- Settles O11: every update of the block keeps the store, so every step does. -/
theorem stepKeepsStoreInv : Obligations.StepKeepsStoreInv := by
  intro s t hinv h
  rcases step_cases h with rfl | ⟨a, rest, hact, -⟩
  · exact hinv
  · exact keepsStore_act hact (hinv : StoreInv (counted s rest))

end Sys2Proof.Proofs.Invariants
end

section
/-! SUPPORT. The link between mode, sequencer position, fault register and tokens (R36, R131, R240, R352, R355), and the legal
configuration with its decomposed chirp counters (R35, R43): two invariants of every step. -/

namespace Sys2Proof.Proofs.Control

open Sys2Proof.Machine Sys2Proof.Claim Sys2Proof.Proofs.Carry Sys2Proof.Proofs.Steps Sys2Proof.Proofs.Invariants

set_option Elab.async false

/-! ## What control reads -/

/-- Mode and tokens are as before. -/
structure SameTokens (s t : State) : Prop where
  mode : t.mode = s.mode
  chirp : t.chirpToken = s.chirpToken
  frame : t.frameToken = s.frameToken

/-- Everything control reads is as before. -/
structure SameControl (s t : State) : Prop extends SameTokens s t where
  seq : t.seq = s.seq
  fault : t.fault = s.fault
  scratch : t.chirpScr = s.chirpScr

/-- The block is not halted by the update, and the fault register is as before. -/
structure KeepsRunning (s t : State) : Prop where
  mode : s.mode ≠ .halted → t.mode ≠ .halted
  fault : t.fault = s.fault

theorem SameControl.rfl' {s t : State} (hmode : t.mode = s.mode) (hchirp : t.chirpToken = s.chirpToken)
    (hframe : t.frameToken = s.frameToken) (hseq : t.seq = s.seq) (hfault : t.fault = s.fault)
    (hscr : t.chirpScr = s.chirpScr) : SameControl s t := ⟨⟨hmode, hchirp, hframe⟩, hseq, hfault, hscr⟩

theorem SameControl.running {s t : State} (h : SameControl s t) : KeepsRunning s t := ⟨fun hm => h.mode ▸ hm, h.fault⟩

theorem carried_sameTokens : Carried SameTokens :=
  ⟨fun _ => ⟨rfl, rfl, rfl⟩,
    fun _ _ _ h1 h2 => ⟨h2.mode.trans h1.mode, h2.chirp.trans h1.chirp, h2.frame.trans h1.frame⟩⟩

theorem carried_sameControl : Carried SameControl :=
  ⟨fun _ => ⟨⟨rfl, rfl, rfl⟩, rfl, rfl, rfl⟩,
    fun _ _ _ h1 h2 => ⟨carried_sameTokens.trans _ _ _ h1.toSameTokens h2.toSameTokens, h2.seq.trans h1.seq,
      h2.fault.trans h1.fault, h2.scratch.trans h1.scratch⟩⟩

theorem carried_keepsRunning : Carried KeepsRunning :=
  ⟨fun _ => ⟨id, rfl⟩, fun _ _ _ h1 h2 => ⟨fun hm => h2.mode (h1.mode hm), h2.fault.trans h1.fault⟩⟩

/-- Relations that follow from `SameControl` inherit its updates. -/
theorem commandUpdates_mono {R S : State → State → Prop} (h : CommandUpdates R) (hS : Carried S) (hRS : ∀ s t, R s t → S s t) :
    CommandUpdates S where
  toCarried := hS
  chan s p c := hRS _ _ (h.chan s p c)
  bytes s a bs := hRS _ _ (h.bytes s a bs)
  dcSum s v := hRS _ _ (h.dcSum s v)
  dcCount s v := hRS _ _ (h.dcCount s v)
  window s v := hRS _ _ (h.window s v)
  bmpWord s v := hRS _ _ (h.bmpWord s v)
  bmpCursor s v := hRS _ _ (h.bmpCursor s v)
  frameScr s v := hRS _ _ (h.frameScr s v)
  noRaw s := hRS _ _ (h.noRaw s)
  noObjs s := hRS _ _ (h.noObjs s)
  addRaw s r d p := hRS _ _ (h.addRaw s r d p)
  addObj s o := hRS _ _ (h.addObj s o)
  setObj s i o := hRS _ _ (h.setObj s i o)
  outDesc s v := hRS _ _ (h.outDesc s v)
  publish s k hk := hRS _ _ (h.publish s k hk)
  drop s := hRS _ _ (h.drop s)
  res0 s v := hRS _ _ (h.res0 s v)
  res1 s v := hRS _ _ (h.res1 s v)

theorem sameControl_addRaw (s : State) (r d p : Nat) : SameControl s (s.addRaw r d p) := by
  unfold State.addRaw
  split <;> exact .rfl' rfl rfl rfl rfl rfl rfl

theorem sameControl_addObj (s : State) (o : ObjOut) : SameControl s (s.addObj o).1 := by
  unfold State.addObj
  split <;> exact .rfl' rfl rfl rfl rfl rfl rfl

theorem sameControl_wrBytes (s : State) (who : Agent) (a : Nat) (bs : List Byte) : SameControl s (s.wrBytes who a bs) :=
  .rfl' (wrBytes_mode ..) (wrBytes_chirpToken ..) (wrBytes_frameToken ..) (wrBytes_seq ..) (wrBytes_fault ..)
    (wrBytes_chirpScr ..)

theorem commandUpdates_sameControl : CommandUpdates SameControl where
  toCarried := carried_sameControl
  chan _ _ _ := .rfl' rfl rfl rfl rfl rfl rfl
  bytes s a bs := sameControl_wrBytes s _ a bs
  dcSum _ _ := .rfl' rfl rfl rfl rfl rfl rfl
  dcCount _ _ := .rfl' rfl rfl rfl rfl rfl rfl
  window _ _ := .rfl' rfl rfl rfl rfl rfl rfl
  bmpWord _ _ := .rfl' rfl rfl rfl rfl rfl rfl
  bmpCursor _ _ := .rfl' rfl rfl rfl rfl rfl rfl
  frameScr _ _ := .rfl' rfl rfl rfl rfl rfl rfl
  noRaw _ := .rfl' rfl rfl rfl rfl rfl rfl
  noObjs _ := .rfl' rfl rfl rfl rfl rfl rfl
  addRaw := sameControl_addRaw
  addObj := sameControl_addObj
  setObj _ _ _ := .rfl' rfl rfl rfl rfl rfl rfl
  outDesc _ _ := .rfl' rfl rfl rfl rfl rfl rfl
  publish _ _ _ := .rfl' rfl rfl rfl rfl rfl rfl
  drop _ := .rfl' rfl rfl rfl rfl rfl rfl
  res0 _ _ := .rfl' rfl rfl rfl rfl rfl rfl
  res1 _ _ := .rfl' rfl rfl rfl rfl rfl rfl

theorem commandUpdates_sameTokens : CommandUpdates SameTokens :=
  commandUpdates_mono commandUpdates_sameControl carried_sameTokens fun _ _ h => h.toSameTokens

theorem commandUpdates_keepsRunning : CommandUpdates KeepsRunning :=
  commandUpdates_mono commandUpdates_sameControl carried_keepsRunning fun _ _ h => h.running

/-- The modulo chain and its flag touch the counters and the scratch alone. -/
theorem sameTokens_moduloChain (s : State) :
    SameTokens s { s.moduloChain.1 with chirpScr := { s.chirpScr with last := s.moduloChain.2 } } := by
  rw [ModuloChain.moduloChain_frame s]
  exact ⟨rfl, rfl, rfl⟩

theorem keepsRunning_moduloChain (s : State) :
    KeepsRunning s { s.moduloChain.1 with chirpScr := { s.chirpScr with last := s.moduloChain.2 } } := by
  rw [ModuloChain.moduloChain_frame s]
  exact ⟨id, rfl⟩

theorem keepsRunning_bodyOf (i : Instr) : Carries KeepsRunning (bodyOf i) :=
  commandUpdates_keepsRunning.bodyOf (fun _ => ⟨fun _ => ⟨id, rfl⟩, fun _ => ⟨fun _ => nofun, rfl⟩⟩)
    (fun _ => ⟨fun _ => ⟨id, rfl⟩, fun _ => ⟨fun _ => nofun, rfl⟩⟩)
    (fun _ => ⟨fun _ => ⟨fun _ => nofun, rfl⟩, fun _ => ⟨id, rfl⟩⟩)
    (fun table _ _ _ _ _ _ => by cases table <;> exact ⟨id, rfl⟩) (fun _ _ => ⟨id, rfl⟩) (fun _ _ => ⟨id, rfl⟩)

theorem keepsRunning_runPos (q : Pos) : Carries KeepsRunning (runPos q) := by
  have hup := commandUpdates_keepsRunning
  cases q with
  | complete => exact carries_pure carried_keepsRunning _
  | stop p => exact carries_stopDrain carried_keepsRunning hup.chan (fun _ => ⟨fun _ => nofun, rfl⟩) _
  | angle i => exact carries_angleResume carried_keepsRunning hup.setObj hup.addObj hup.res0 i
  | chirp q byCmd =>
    exact hup.chirpPhase (fun _ _ => ⟨id, rfl⟩) (fun _ => keepsRunning_moduloChain) (fun _ _ => ⟨id, rfl⟩) (fun _ _ => ⟨id, rfl⟩)
  | frame q byCmd => exact hup.framePhase fun _ _ => ⟨id, rfl⟩

/-! ## Keeping the link -/

/-- What control needs where a piece of work leads. -/
def FlowInv (s : State) : Flow → Prop
  | .finish _ => True
  | .pos q | .wait _ q => PosInv s q

/-- A position needs the mode, the tokens and the scratch alone. -/
theorem posInv_congr {s t : State} (hmode : t.mode = s.mode) (hchirp : t.chirpToken = s.chirpToken)
    (hframe : t.frameToken = s.frameToken) (hscr : t.chirpScr = s.chirpScr) (q : Pos) : PosInv t q ↔ PosInv s q := by
  cases q <;> simp only [PosInv, hmode, hchirp, hframe, hscr]

/-- Updates that leave alone what control reads keep the link. -/
theorem controlInv_of_same {s t : State} (h : SameControl s t) (hinv : ControlInv s) : ControlInv t := by
  obtain ⟨hseq, hfault, hpos, hwait⟩ := hinv
  have hcongr := posInv_congr h.mode h.chirp h.frame h.scratch
  refine ⟨?_, ?_, fun q hq => (hcongr q).mpr (hpos q ?_), fun p q hq => (hcongr q).mpr (hwait p q ?_)⟩
  · rw [h.mode, h.seq]
    exact hseq
  · rw [h.mode, h.fault]
    exact hfault
  · rw [← h.seq, hq]
  · rw [← h.seq, hq]

theorem faultCode_num_ne_zero (c : FaultCode) : c.num ≠ 0 := by
  cases c <;> decide

/-- After a Fatal the block is halted with a code (R352). -/
theorem controlInv_fatal (s : State) (f : Fatal) : ControlInv (s.fatal f) := by
  have hcode : (s.fatal f).fault.code ≠ 0 := by
    rw [fatal_fault]
    split
    · exact faultCode_num_ne_zero f.code
    · assumption
  exact ⟨iff_of_true rfl rfl, iff_of_true rfl hcode, nofun, nofun⟩

/-- A block that runs at a place of its sequencer, with what the place needs. -/
theorem controlInv_of_running {s : State} (hm : s.mode ≠ .halted) (hseq : s.seq ≠ .halt) (hf : s.fault.code = 0)
    (hpos : ∀ q, s.seq = .pos q → PosInv s q) (hwait : ∀ p q, s.seq = .wait p q → PosInv s q) : ControlInv s :=
  ⟨iff_of_false hm hseq, iff_of_false hm (not_not.mpr hf), hpos, hwait⟩

/-- A busy or waiting sequencer is not halted, and no Fatal has happened. -/
theorem running_of_controlInv {s : State} (h : ControlInv s) (hseq : s.seq ≠ .halt) : s.mode ≠ .halted ∧ s.fault.code = 0 := by
  obtain ⟨hhalt, hfault, -⟩ := h
  have hm : s.mode ≠ .halted := mt hhalt.mp hseq
  exact ⟨hm, not_not.mp (mt hfault.mpr hm)⟩

/-- Settling a piece of work that leads where its mode and tokens allow (R25, R352). -/
theorem controlInv_settle {body : Seqr Flow} {s : State} (hm : s.mode ≠ .halted) (hf : s.fault.code = 0)
    (hkeep : Carries KeepsRunning body) (hflow : ∀ f t, body s = .ok f t → FlowInv t f) : ControlInv (settle body s) := by
  have hkeep' := hkeep s
  unfold settle
  split <;> rename_i heq <;> rw [heq] at hkeep'
  case h_5 => exact controlInv_fatal _ _
  all_goals
    have hm' := hkeep'.mode hm
    have hf' := (congrArg FaultReg.code hkeep'.fault).trans hf
  · exact controlInv_of_running hm' nofun hf' nofun nofun
  · exact controlInv_of_running hm' nofun hf' nofun nofun
  · exact controlInv_of_running hm' nofun hf' (fun _ hq => by cases hq; exact hflow _ _ heq) nofun
  · exact controlInv_of_running hm' nofun hf' nofun (fun _ _ hq => by cases hq; exact hflow _ _ heq)

/-! ## Where the work at a position leads -/

section
variable {s t : State} {f : Flow}

/-- What awaiting a channel can answer (R209). -/
theorem awaitThen_cases (p : Nat) (q : Pos) (k : Seqr Flow) (s : State) :
    (∃ e, awaitThen p q k s = .error e s) ∨ awaitThen p q k s = .ok (.wait p q) s ∨ awaitThen p q k s = k (s.consume p) := by
  by_cases hp : p < 12
  · cases hd : (s.chan p).xfer.isDone with
    | false => exact .inr (.inl (awaitThen_wait p q k s hp hd))
    | true => exact .inr (.inr (awaitThen_done p q k s hp hd))
  · exact .inl ⟨⟨.dmaConfig, p⟩, by simp [awaitThen, channelExists, hp]⟩

/-- The drain of RUN.STOP ends or waits to go on with itself, the mode as it was (R136). -/
theorem stopDrain_leads (ps : List Nat) (h : stopDrain ps s = .ok f t) :
    f = .finish true ∨ ∃ p q, f = .wait p (.stop q) ∧ t.mode = s.mode := by
  induction ps generalizing s with
  | nil =>
    cases h
    exact .inl rfl
  | cons p ps ih =>
    have hstep : stopDrain (p :: ps) s
        = (if (s.chan p).xfer.isIdle then stopDrain ps else awaitThen p (.stop (p + 1)) (stopDrain ps) : Seqr Flow) s := rfl
    rw [hstep] at h
    split at h
    · exact ih h
    · rcases awaitThen_cases p (.stop (p + 1)) (stopDrain ps) s with ⟨e, heq⟩ | heq | heq <;> rw [heq] at h
      · cases h
      · cases h
        exact .inr ⟨p, p + 1, rfl, rfl⟩
      · exact ih (s := s.consume p) h

/-- A running chirp before its last step leads on within the sequence. -/
theorem flowInv_of_inChirp {byCmd : Bool} (hm : t.mode = .running) (hc : t.chirpToken = true) (h : InChirp byCmd f) :
    FlowInv t f := by
  unfold InChirp at h
  split at h
  · exact ⟨hm, hc, fun h9 => absurd h9 h.1⟩
  · exact ⟨hm, hc, fun h9 => absurd h9 h.1⟩
  all_goals exact h.elim

/-- A running frame leads on within the sequence. -/
theorem flowInv_of_inFrame {byCmd : Bool} (hm : t.mode = .running ∨ t.mode = .configured) (hframe : t.frameToken = true)
    (h : InFrame byCmd f) : FlowInv t f := by
  unfold InFrame at h
  split at h
  · exact ⟨hm, hframe⟩
  · exact ⟨hm, hframe⟩
  all_goals exact h.elim

/-- Step 8 after its waits sets the frame token (R232). -/
def markFrame (byCmd : Bool) : Seqr Flow :=
  (modify fun t : State => { t with frameToken := true } : Seqr Unit) >>= fun _ => (pure (Flow.pos (.chirp .s9 byCmd)) : Seqr Flow)

/-- Step 8 after its first wait. -/
def drainSecond (byCmd : Bool) (s : State) : Seqr Flow := awaitThen (2 + s.chirpSlot) (.chirp .s8set byCmd) (markFrame byCmd)

theorem chirpPhase_s8 (byCmd : Bool) (s : State) : chirpPhase .s8 byCmd s =
    (if s.chirpScr.last then awaitThen (2 + (1 - s.chirpSlot)) (.chirp .s8second byCmd) (drainSecond byCmd s)
      else pure (.pos (.chirp .s9 byCmd))) s := rfl

theorem chirpPhase_s8second (byCmd : Bool) (s : State) : chirpPhase .s8second byCmd s = drainSecond byCmd s s := rfl

theorem chirpPhase_s9 (byCmd : Bool) (s : State) : chirpPhase .s9 byCmd s =
    (if s.chirpScr.last then pure (Flow.pos (.frame .s1 byCmd)) else pure (Flow.finish byCmd) : Seqr Flow) { s with chirpToken := false } := rfl

theorem flowInv_markFrame {byCmd : Bool} (hm : s.mode = .running) (hc : s.chirpToken = true)
    (h : markFrame byCmd s = .ok f t) : FlowInv t f := by
  cases h
  exact ⟨hm, hc, fun _ _ => rfl⟩

theorem flowInv_drainSecond {byCmd : Bool} {u : State} (hm : s.mode = .running) (hc : s.chirpToken = true)
    (h : drainSecond byCmd u s = .ok f t) : FlowInv t f := by
  rcases awaitThen_cases (2 + u.chirpSlot) (.chirp .s8set byCmd) (markFrame byCmd) s with ⟨e, heq⟩ | heq | heq <;>
    rw [drainSecond, heq] at h
  · cases h
  · cases h
    exact ⟨hm, hc, nofun⟩
  · exact flowInv_markFrame (s := s.consume (2 + u.chirpSlot)) hm hc h

/-- The per-chirp sequence leads where the mode and the tokens allow (R232, R240). -/
theorem flowInv_chirpPhase {q : ChirpPos} {byCmd : Bool} (hpos : PosInv s (.chirp q byCmd))
    (h : chirpPhase q byCmd s = .ok f t) : FlowInv t f := by
  obtain ⟨hm, hc, hlast⟩ := hpos
  by_cases hq : q ≠ .s8 ∧ q ≠ .s8second ∧ q ≠ .s8set ∧ q ≠ .s9
  · have hsame : SameTokens s t := by
      have hcarry := commandUpdates_sameTokens.chirpPhase (q := q) (byCmd := byCmd) (fun _ _ => ⟨rfl, rfl, rfl⟩)
        (fun _ => sameTokens_moduloChain) (fun h8 => absurd h8 (by simp [hq])) (fun h9 => absurd h9 hq.2.2.2) s
      rwa [h] at hcarry
    exact flowInv_of_inChirp (hsame.mode.trans hm) (hsame.chirp.trans hc) (chirpPhase_leads hq s f t h)
  · obtain rfl | rfl | rfl | rfl : q = .s8 ∨ q = .s8second ∨ q = .s8set ∨ q = .s9 := by
      by_contra hne
      simp only [not_or] at hne
      exact hq hne
    · rw [chirpPhase_s8] at h
      split at h
      · rcases awaitThen_cases (2 + (1 - s.chirpSlot)) (.chirp .s8second byCmd) (drainSecond byCmd s) s with
          ⟨e, heq⟩ | heq | heq <;> rw [heq] at h
        · cases h
        · cases h
          exact ⟨hm, hc, nofun⟩
        · exact flowInv_drainSecond (s := s.consume (2 + (1 - s.chirpSlot))) hm hc h
      · next hnot =>
        cases h
        exact ⟨hm, hc, fun _ hset => absurd hset hnot⟩
    · exact flowInv_drainSecond hm hc h
    · exact flowInv_markFrame hm hc h
    · rw [chirpPhase_s9] at h
      split at h
      · next hset =>
        cases h
        exact ⟨.inl hm, hlast rfl hset⟩
      · cases h
        trivial

/-- The inter-frame sequence leads where the mode and the token allow (R322). -/
theorem flowInv_framePhase {q : FramePos} {byCmd : Bool} (hpos : PosInv s (.frame q byCmd))
    (h : framePhase q byCmd s = .ok f t) : FlowInv t f := by
  obtain ⟨hm, hframe⟩ := hpos
  by_cases hq : q = .s8
  · subst hq
    cases h
    trivial
  · have hsame : SameTokens s t := by
      have hcarry := commandUpdates_sameTokens.framePhase (q := q) (byCmd := byCmd) (fun h8 => absurd h8 hq) s
      rwa [h] at hcarry
    exact flowInv_of_inFrame (by rwa [hsame.mode]) (hsame.frame.trans hframe) (framePhase_leads hq s f t h)

/-- Flows that end the work need nothing. -/
theorem flowInv_of_finish {body : Seqr Flow} (hleads : Leads (· = .finish true) body) (h : body s = .ok f t) : FlowInv t f := by
  rw [hleads s f t h]
  trivial

/-- Every position leads where control allows. -/
theorem flowInv_runPos {q : Pos} (hpos : PosInv s q) (h : runPos q s = .ok f t) : FlowInv t f := by
  cases q with
  | complete => exact flowInv_of_finish (leads_pure rfl) h
  | angle i => exact flowInv_of_finish (leads_bind fun _ => leads_bind fun _ => leads_pure rfl) h
  | stop p =>
    rcases stopDrain_leads _ h with rfl | ⟨p, q, rfl, hmode⟩
    · trivial
    · exact hmode.trans hpos
  | chirp q byCmd => exact flowInv_chirpPhase hpos h
  | frame q byCmd => exact flowInv_framePhase hpos h

/-- Every command leads where control allows (R131). -/
theorem flowInv_bodyOf {i : Instr} (hadm : admitted i s.mode = true) (h : bodyOf i s = .ok f t) : FlowInv t f := by
  cases i with
  | runStop =>
    have hm : s.mode = .running := by simpa [admitted] using hadm
    have hdrain : stopDrain ((List.range 12).drop 0) { s with chirpToken := false } = .ok f t := h
    rcases stopDrain_leads _ hdrain with rfl | ⟨p, q, rfl, hmode⟩
    · trivial
    · exact hmode.trans hm
  | dmaWait p =>
    have hm : s.mode = .configured := by simpa [admitted] using hadm
    rcases awaitThen_cases p .complete (pure (.finish true)) s with ⟨e, heq⟩ | heq | heq <;> rw [bodyOf, heq] at h <;> cases h
    · exact hm
    · trivial
  | angleObj i =>
    have hm : s.mode = .configured := by simpa [admitted] using hadm
    have hup := commandUpdates_sameTokens
    have hsame : SameTokens s t := by
      have hcarry := carries_angleRun carried_sameTokens hup.setObj hup.addObj hup.chan i (.angle i) (k := angleDone) (fun _ =>
        carries_bind carried_sameTokens (carries_setRes0 hup.res0 _) fun _ => carries_pure carried_sameTokens _) s
      rwa [show angleRun i (.angle i) angleDone s = .ok f t from h] at hcarry
    have hleads : Leads (fun f => f = .finish true ∨ f = .wait 10 (.angle i)) (bodyOf (.angleObj i)) :=
      leads_angleRun (.inr rfl) fun _ => leads_bind fun _ => leads_pure (.inl rfl)
    rcases hleads s f t h with rfl | rfl
    · trivial
    · exact hsame.mode.trans hm
  | chirpProc =>
    have hm : s.mode = .running := by simpa [admitted] using hadm
    cases hfault : s.chirpFault with
    | none =>
      rw [bodyOf, ChirpEvent.chirpProcBody_ok hfault] at h
      cases h
      exact ⟨hm, rfl, nofun⟩
    | some e =>
      rw [bodyOf, ChirpEvent.chirpProcBody_error hfault] at h
      cases h
  | frameProc =>
    have hm : s.mode = .configured := by simpa [admitted] using hadm
    have hbody : frameProcBody s = (require s.winOk2D .cfgWindow 1 >>= fun _ =>
      (modify fun t => { t with frameToken := true, before := t.tables }) >>= fun _ => pure (.pos (.frame .s1 true))) s := rfl
    rw [bodyOf, hbody] at h
    cases hwin : s.winOk2D <;> rw [hwin] at h <;> cases h
    exact ⟨.inr hm, rfl⟩
  | _ => exact flowInv_of_finish (leads_thenDone rfl) h

end

/-! ## Every step keeps the link -/

theorem controlInv_exec {i : Instr} {s t : State} (hm : s.mode ≠ .halted) (hf : s.fault.code = 0) (h : exec i s = .next t) :
    ControlInv t := by
  rcases exec_cases i s with ⟨hadm, heq⟩ | ⟨-, heq⟩ <;> rw [heq] at h <;> obtain rfl := Host.Outcome.next.inj h
  · exact controlInv_settle hm hf (keepsRunning_bodyOf i) fun _ _ => flowInv_bodyOf hadm
  · exact controlInv_fatal _ _

theorem controlInv_seqStep {s t : State} (hinv : ControlInv s) (h : seqStep s = .next t) : ControlInv t := by
  rcases seqStep_cases h with rfl | ⟨hseq, hm, hc, rfl⟩ | ⟨w, i, hseq, -, hexec⟩ | ⟨w, -, rfl⟩ | ⟨q, hseq, rfl⟩ | ⟨p, q, hseq, rfl⟩
  · exact hinv
  · obtain ⟨hmode, hf⟩ := running_of_controlInv hinv (by rw [hseq]; nofun)
    refine controlInv_of_running hmode nofun hf (fun q hq => ?_) nofun
    cases hq
    exact ⟨hm, hc, nofun⟩
  · obtain ⟨hmode, hf⟩ := running_of_controlInv hinv (by rw [hseq]; nofun)
    exact controlInv_exec hmode hf hexec
  · exact controlInv_fatal _ _
  · obtain ⟨hmode, hf⟩ := running_of_controlInv hinv (by rw [hseq]; nofun)
    exact controlInv_settle hmode hf (keepsRunning_runPos q) fun _ _ => flowInv_runPos (hinv.2.2.1 q hseq)
  · obtain ⟨hmode, hf⟩ := running_of_controlInv hinv (by rw [hseq]; nofun)
    refine controlInv_of_running hmode nofun hf (fun q' hq => ?_) nofun
    cases hq
    exact (posInv_congr rfl rfl rfl rfl q).mpr (hinv.2.2.2 p q hseq)

/-- The perform step leaves control alone or halts. -/
theorem perform_control (s : State) (p : Nat) : SameControl s (s.perform p) ∨ ∃ f, s.perform p = s.fatal f := by
  rcases perform_cases s p with heq | ⟨d, -, -, -, heq⟩ | ⟨d, -, -, -, heq⟩
  · exact .inl (by rw [heq]; exact carried_sameControl.refl s)
  · refine .inl ?_
    rw [heq]
    refine carried_sameControl.trans _ _ _ (deliver_related (who := .channel p) carried_sameControl (fun u => sameControl_wrBytes u _)
      d.dstride.toNat (s.fetch p d) d.dst.toNat s) ?_
    unfold State.finishTransfer
    dsimp only
    split <;> exact .rfl' rfl rfl rfl rfl rfl rfl
  · exact .inr ⟨_, heq⟩

theorem sameControl_writeReg (s : State) (off : Nat) (w : Word) : SameControl s (s.writeReg off w) := by
  rcases writeReg_cases s off w with ⟨v, heq⟩ | ⟨v, past, heq⟩ | ⟨-, heq⟩ | heq | ⟨v, heq⟩ | ⟨c, heq⟩ <;> rw [heq] <;>
    exact .rfl' rfl rfl rfl rfl rfl rfl

theorem controlInv_act {a : Action} {s t : State} (hinv : ControlInv s) (h : act a s = .next t) : ControlInv t := by
  cases a with
  | seq => exact controlInv_seqStep hinv h
  | dma p =>
    obtain rfl := Host.Outcome.next.inj h
    rcases perform_control s p with hsame | ⟨f, heq⟩
    · exact controlInv_of_same hsame hinv
    · rw [heq]
      exact controlInv_fatal s f
  | regRead off =>
    obtain rfl := Host.Outcome.next.inj h
    exact controlInv_of_same (.rfl' rfl rfl rfl rfl rfl rfl) hinv
  | regWrite off w =>
    obtain rfl := Host.Outcome.next.inj h
    rcases busWrite_cases s off w with heq | ⟨f, heq⟩ | ⟨hm, -, heq⟩ | heq <;> rw [heq]
    · exact hinv
    · exact controlInv_fatal _ _
    · exact controlInv_of_running hm nofun (not_not.mp (mt hinv.2.1.mpr hm)) nofun nofun
    · exact controlInv_of_same (sameControl_writeReg s off w) hinv
  | memRead addr n =>
    obtain rfl := act_memRead h
    exact controlInv_of_same (.rfl' rfl rfl rfl rfl rfl rfl) hinv
  | memWrite addr bs =>
    obtain rfl := act_memWrite h
    exact controlInv_of_same (sameControl_wrBytes s _ _ _) hinv
  | chirp =>
    obtain rfl := Host.Outcome.next.inj h
    rcases chirpEvent_cases s with heq | ⟨f, heq⟩ | heq <;> rw [heq]
    · exact hinv
    · exact controlInv_fatal _ _
    · obtain ⟨hhalt, hfault, hpos, hwait⟩ := hinv
      have hset (q : Pos) (hq : PosInv s q) : PosInv { s with chirpToken := true, lateSamples := [] } q := by
        cases q with
        | chirp c byCmd => exact ⟨hq.1, rfl, hq.2.2⟩
        | complete | stop p | angle i | frame q byCmd => exact hq
      exact ⟨hhalt, hfault, fun q hq => hset q (hpos q hq), fun p q hq => hset q (hwait p q hq)⟩
  | reset =>
    obtain rfl := Host.Outcome.next.inj h
    exact controlInv_of_running nofun nofun rfl nofun nofun

theorem controlInv_counted {s : State} (h : ControlInv s) (rest : List Action) : ControlInv (counted s rest) :=
  controlInv_of_same (.rfl' rfl rfl rfl rfl rfl rfl) h

/-- Settles O12: every position leads where its mode and tokens allow, and every Fatal halts with a code. -/
theorem stepKeepsControlInv : Obligations.StepKeepsControlInv := by
  intro s t hinv h
  rcases step_cases h with rfl | ⟨a, rest, hact, -⟩
  · exact hinv
  · exact controlInv_act (controlInv_counted hinv rest) hact

end Sys2Proof.Proofs.Control
end

section
/-! SUPPORT. CFG.COMMIT, RUN.START and RUN.STOP (R132 to R136): the checks as the rules word them, the channels they touch, and
how each of the three ends. -/

namespace Sys2Proof.Proofs.Control

open Sys2Proof.Machine Sys2Proof.Claim Sys2Proof.Proofs.Nop Sys2Proof.Proofs.Bitmap Sys2Proof.Proofs.Carry
  Sys2Proof.Proofs.Steps

set_option Elab.async false

/-! ## Lists of checks -/

theorem firstFailure_eq_none {l : List (Bool × Fatal)} (h : ∀ x ∈ l, x.1 = true) : firstFailure l = none := by
  induction l with
  | nil => rfl
  | cons x l ih =>
    rw [firstFailure, if_pos (h x List.mem_cons_self)]
    exact ih fun y hy => h y (List.mem_cons_of_mem _ hy)

/-- What is found is the first condition that is false. -/
theorem firstFailure_eq_some {l : List (Bool × Fatal)} {k : Nat} (hk : k < l.length)
    (hbefore : ∀ j (hj : j < k), (l[j]).1 = true) (hfail : l[k].1 = false) : firstFailure l = some l[k].2 := by
  induction l generalizing k with
  | nil => exact absurd hk (Nat.not_lt_zero k)
  | cons x l ih =>
    cases k with
    | zero => exact if_neg (by simpa using hfail)
    | succ k =>
      rw [firstFailure, if_pos (show x.1 = true from hbefore 0 (Nat.succ_pos k))]
      exact ih (by simpa using hk) (fun j hj => hbefore (j + 1) (Nat.succ_lt_succ hj)) hfail

theorem firstFailure_append (l r : List (Bool × Fatal)) : firstFailure (l ++ r) = (firstFailure l).or (firstFailure r) := by
  induction l with
  | nil => rfl
  | cons x l ih =>
    cases hx : x.1 <;> simp [firstFailure, hx, ih]

/-- A numbered list of checks finds its least number that fails. -/
theorem firstFailure_map_range {n k : Nat} {ok : Nat → Bool} {f : Nat → Fatal} (hk : k < n) (hbefore : ∀ j, j < k → ok j = true)
    (hfail : ok k = false) : firstFailure ((List.range n).map fun j => (ok j, f j)) = some (f k) := by
  rw [firstFailure_eq_some (k := k) (by simpa using hk) (fun j hj => by simpa using hbefore j hj) (by simpa using hfail)]
  simp

theorem firstFailure_map_range_none {n : Nat} {ok : Nat → Bool} {f : Nat → Fatal} (h : ∀ j, j < n → ok j = true) :
    firstFailure ((List.range n).map fun j => (ok j, f j)) = none :=
  firstFailure_eq_none (by simpa using h)

/-! ## The checks of R133 -/

theorem isPow2_iff (v : Nat) : isPow2 v = true ↔ ∃ e, v = 2 ^ e := by
  simp only [isPow2, Bool.and_eq_true, bne_iff_ne, beq_iff_eq]
  constructor
  · exact fun h => ⟨_, h.2⟩
  · rintro ⟨e, rfl⟩
    exact ⟨by positivity, by rw [Nat.log2_two_pow]⟩

theorem isPow2_iff_of_lt {v n : Nat} (hv : v < 2 ^ n) : isPow2 v = true ↔ ∃ e, e < n ∧ v = 2 ^ e := by
  rw [isPow2_iff]
  constructor
  · rintro ⟨e, rfl⟩
    exact ⟨e, (Nat.pow_lt_pow_iff_right (by decide)).mp hv, rfl⟩
  · rintro ⟨e, -, he⟩
    exact ⟨e, he⟩

/-- A power of two less than twice another is at most it. -/
theorem pow_le_of_lt_double {a b : Nat} (h : 2 ^ a < 2 * 2 ^ b) : 2 ^ a ≤ 2 ^ b := by
  rw [← Nat.pow_succ', Nat.pow_lt_pow_iff_right (by decide)] at h
  exact Nat.pow_le_pow_right (by decide) (Nat.lt_succ_iff.mp h)

/-- The least power of two not below `v` is the one that is less than twice `v` (R35). -/
theorem eq_nextPow2_iff {v n : Nat} (hv : v ≠ 0) : n = nextPow2 v ↔ (∃ e, n = 2 ^ e) ∧ v ≤ n ∧ n < 2 * v := by
  have hnext : (∃ e, nextPow2 v = 2 ^ e) ∧ v ≤ nextPow2 v ∧ nextPow2 v < 2 * v := by
    unfold nextPow2
    split
    · next h => exact ⟨(isPow2_iff v).mp h, le_refl v, by omega⟩
    · next h =>
      have hle : 2 ^ Nat.log2 v ≤ v := Nat.log2_self_le hv
      have hne : 2 ^ Nat.log2 v ≠ v := fun heq => h ((isPow2_iff v).mpr ⟨_, heq.symm⟩)
      have hlt : v < 2 ^ (Nat.log2 v + 1) := Nat.lt_log2_self
      refine ⟨⟨_, rfl⟩, hlt.le, ?_⟩
      rw [Nat.pow_succ']
      omega
  constructor
  · rintro rfl
    exact hnext
  · rintro ⟨⟨e, rfl⟩, hlo, hhi⟩
    obtain ⟨⟨e', he'⟩, hlo', hhi'⟩ := hnext
    rw [he'] at hlo' hhi' ⊢
    exact le_antisymm (pow_le_of_lt_double (by omega)) (pow_le_of_lt_double (by omega))

theorem dcOk_iff (c : Cfg) : c.dcOk = true ↔ CheckHolds c 11 := by
  have hpow := isPow2_iff_of_lt (BitVec.isLt c.dcAvg)
  simp only [Cfg.dcOk, CheckHolds, Bool.or_eq_true, Bool.not_eq_true', Bool.and_eq_true, decide_eq_true_eq, hpow, le_min_iff,
    Config.dcMaxBins, and_assoc]
  cases c.dcEnable <;> simp

theorem dopWindowOk_iff (c : Cfg) : c.dopWindowOk = true ↔ CheckHolds c 8 := by
  simp only [Cfg.dopWindowOk, CheckHolds, Bool.and_eq_true, decide_eq_true_eq]
  cases c.cfarDop.cyclic <;> simp

theorem rngWindowOk_iff (c : Cfg) : c.rngWindowOk = true ↔ CheckHolds c 9 := by
  simp only [Cfg.rngWindowOk, CheckHolds, Bool.and_eq_true, decide_eq_true_eq, Bool.not_eq_true', and_assoc]

theorem rangeBinsOk_iff {c : Cfg} (hadc : CheckHolds c 3) : (c.numRange.toNat == nextPow2 c.numAdc.toNat) = true ↔ CheckHolds c 4 := by
  obtain ⟨-, hlo, hhi⟩ : CheckHolds c 3 := hadc
  rw [beq_iff_eq, eq_nextPow2_iff (n := c.numRange.toNat) (show c.numAdc.toNat ≠ 0 by omega)]
  constructor
  · rintro ⟨⟨e, he⟩, hle, hlt⟩
    exact ⟨⟨e, by rw [he] at hlt; exact (Nat.pow_lt_pow_iff_right (by decide : 1 < 2)).mp (by omega), he⟩, hle, hlt⟩
  · rintro ⟨⟨e, -, he⟩, hle⟩
    exact ⟨⟨e, he⟩, hle⟩

theorem dopBinsOk_iff (c : Cfg) : (isPow2 c.numDop.toNat && decide (Config.minFftSize ≤ c.numDop.toNat)
    && decide (c.numDop.toNat ≤ Config.maxFftSize)) = true ↔ CheckHolds c 5 := by
  simp only [Bool.and_eq_true, decide_eq_true_eq, Config.minFftSize, Config.maxFftSize, isPow2_iff, and_assoc]
  constructor
  · rintro ⟨⟨e, he⟩, hlo, hhi⟩
    exact ⟨⟨e, (Nat.pow_lt_pow_iff_right (by decide : 1 < 2)).mp (by omega), he⟩, hlo, hhi⟩
  · rintro ⟨⟨e, -, he⟩, hrest⟩
    exact ⟨⟨e, he⟩, hrest⟩

/-- Each check of the list is the check of R133 with its number, where those before it hold. -/
theorem checks_iff {c : Cfg} {n : Nat} (hn : n < 11) (hprev : ∀ m, m < n + 1 → CheckHolds c m) :
    (c.checks[n]'hn).1 = true ↔ CheckHolds c (n + 1) := by
  match n, hn, hprev with
  | 3, _, hprev => exact rangeBinsOk_iff (hprev 3 (by decide))
  | 4, _, _ => exact dopBinsOk_iff c
  | 7, _, _ => exact dopWindowOk_iff c
  | 8, _, _ => exact rngWindowOk_iff c
  | 10, _, _ => exact dcOk_iff c
  | 0, _, _ | 1, _, _ | 2, _, _ | 5, _, _ | 6, _, _ | 9, _, _ =>
    simp [Cfg.checks, CheckHolds, Config.maxRxAnt, Config.maxTxAnt, and_assoc]

/-- The code and number of each check (R133). -/
theorem checks_fatal (c : Cfg) {n : Nat} (hn : n < 11) :
    (c.checks[n]'hn).2 = ⟨if n + 1 = 6 ∨ n + 1 = 7 then .cfgCfarMode else .cfgInvalid, n + 1⟩ := by
  interval_cases n <;> rfl

theorem firstFailure_checks {c : Cfg} (h : ∀ n, n < 12 → CheckHolds c n) : firstFailure c.checks = none := by
  refine firstFailure_eq_none fun x hx => ?_
  obtain ⟨n, hn, rfl⟩ := List.mem_iff_getElem.mp hx
  have hn' : n < 11 := hn
  exact (checks_iff hn' fun m hm => h m (by omega)).mpr (h (n + 1) (by omega))

/-! ## The layout checks (R89 to R91, R95) -/

theorem bufSize_eq (c : Cfg) {k : Nat} (hk : k < 18) : c.bufSize k = bufferSize c k := by
  interval_cases k <;> rfl

theorem alignedOk_iff (c : Cfg) (k : Nat) : c.alignedOk k = true ↔ BufferAligned c k := by
  simp only [Cfg.alignedOk, Bool.and_eq_true, beq_iff_eq, decide_eq_true_eq]
  rfl

theorem fits_iff (c : Cfg) (sp : Spaces) {k : Nat} (hk : k < 18) : c.fits sp k = true ↔ BufferFits c sp k := by
  simp only [Cfg.fits, decide_eq_true_eq, bufSize_eq c hk]
  rfl

/-- Two buffers may overlap exactly where one is `P1` and the other `P2` (R88, R91). -/
theorem phases_eq_three {j k : Nat} (hj : j < 18) (hk : k < 18) :
    listGet phases j 0 + listGet phases k 0 = 3
      ↔ (bufPhase j = .p1 ∧ bufPhase k = .p2) ∨ (bufPhase j = .p2 ∧ bufPhase k = .p1) := by
  have hall : ∀ j < 18, ∀ k < 18, listGet phases j 0 + listGet phases k 0 = 3
      ↔ (bufPhase j = .p1 ∧ bufPhase k = .p2) ∨ (bufPhase j = .p2 ∧ bufPhase k = .p1) := by decide
  exact hall j hj k hk

theorem pairOk_iff (c : Cfg) {j k : Nat} (hj : j < 18) (hk : k < 18) : c.pairOk j k = true ↔ PairOk c j k := by
  have hbase (i : Nat) : c.base i = baseOf c i := rfl
  simp only [Cfg.pairOk, PairOk, Overlap, Bool.or_eq_true, Bool.and_eq_true, bne_iff_ne, beq_iff_eq, decide_eq_true_eq, bufSize_eq c hj,
    bufSize_eq c hk, hbase, phases_eq_three hj hk]
  generalize (bufPhase j = .p1 ∧ bufPhase k = .p2) = A, (bufPhase j = .p2 ∧ bufPhase k = .p1) = B
  by_cases hA : A <;> by_cases hB : B <;> simp only [hA, hB, or_true, or_false, implies_true]
  simp only [imp_false, ne_eq]
  omega

/-- The pairs of buffer `j` with the later ones. -/
theorem pairs_iff (c : Cfg) {j : Nat} (hj : j < 18) :
    ((List.range 18).all fun k => decide (k ≤ j) || c.pairOk j k) = true ↔ ∀ k, k < 18 → j < k → PairOk c j k := by
  simp only [List.all_eq_true, List.mem_range, Bool.or_eq_true, decide_eq_true_eq]
  constructor
  · exact fun h k hk hjk => (pairOk_iff c hj hk).mp ((h k hk).resolve_left (Nat.not_le.mpr hjk))
  · exact fun h k hk => (Nat.lt_or_ge j k).symm.imp id fun hjk => (pairOk_iff c hj hk).mpr (h k hk hjk)

section
variable {c : Cfg} {sp : Spaces}

theorem layout_aligned (h : ∀ j, j < 18 → BufferAligned c j) :
    firstFailure ((List.range 18).map fun k => (c.alignedOk k, (⟨.cfgLayout, k⟩ : Fatal))) = none :=
  firstFailure_map_range_none fun j hj => (alignedOk_iff c j).mpr (h j hj)

theorem layout_fits (h : ∀ j, j < 18 → BufferFits c sp j) :
    firstFailure ((List.range 18).map fun k => (c.fits sp k, (⟨.cfgLayout, k⟩ : Fatal))) = none :=
  firstFailure_map_range_none fun j hj => (fits_iff c sp hj).mpr (h j hj)

theorem layout_pairs (h : ∀ j, j < 18 → ∀ k, k < 18 → j < k → PairOk c j k) :
    firstFailure ((List.range 18).map fun j =>
      ((List.range 18).all fun k => decide (k ≤ j) || c.pairOk j k, (⟨.cfgLayout, j⟩ : Fatal))) = none :=
  firstFailure_map_range_none fun j hj => (pairs_iff c hj).mpr (h j hj)

theorem firstFailure_layout (h : LegalLayout c sp) : firstFailure (c.layoutChecks sp) = none := by
  obtain ⟨hbuf, hpair, hadc⟩ := h
  rw [Cfg.layoutChecks, firstFailure_append, firstFailure_append, firstFailure_append, layout_aligned fun j hj => (hbuf j hj).1,
    layout_fits fun j hj => (hbuf j hj).2, layout_pairs hpair]
  exact if_pos (decide_eq_true hadc)

theorem layout_misaligned {k : Nat} (hk : k < 18) (hbefore : ∀ j, j < k → BufferAligned c j) (hfail : ¬ BufferAligned c k) :
    firstFailure (c.layoutChecks sp) = some ⟨.cfgLayout, k⟩ := by
  rw [Cfg.layoutChecks, firstFailure_append, firstFailure_append, firstFailure_append, firstFailure_map_range hk
    (fun j hj => (alignedOk_iff c j).mpr (hbefore j hj)) (by rwa [← Bool.not_eq_true, alignedOk_iff])]
  rfl

theorem layout_unfit {k : Nat} (hall : ∀ j, j < 18 → BufferAligned c j) (hk : k < 18)
    (hbefore : ∀ j, j < k → BufferFits c sp j) (hfail : ¬ BufferFits c sp k) :
    firstFailure (c.layoutChecks sp) = some ⟨.cfgLayout, k⟩ := by
  rw [Cfg.layoutChecks, firstFailure_append, firstFailure_append, firstFailure_append, layout_aligned hall,
    firstFailure_map_range hk (fun j hj => (fits_iff c sp (hj.trans hk)).mpr (hbefore j hj))
      (by rwa [← Bool.not_eq_true, fits_iff c sp hk])]
  rfl

theorem layout_overlap {j : Nat} (hall : ∀ j, j < 18 → BufferAligned c j) (hfits : ∀ j, j < 18 → BufferFits c sp j) (hj : j < 18)
    (hbefore : ∀ i, i < j → ∀ l, l < 18 → i < l → PairOk c i l) (hfail : ¬ ∀ k, k < 18 → j < k → PairOk c j k) :
    firstFailure (c.layoutChecks sp) = some ⟨.cfgLayout, j⟩ := by
  rw [Cfg.layoutChecks, firstFailure_append, firstFailure_append, firstFailure_append, layout_aligned hall, layout_fits hfits,
    firstFailure_map_range hj (fun i hi => (pairs_iff c (hi.trans hj)).mpr (hbefore i hi))
      (by rwa [← Bool.not_eq_true, pairs_iff c hj])]
  rfl

theorem layout_adc (hall : ∀ j, j < 18 → BufferAligned c j) (hfits : ∀ j, j < 18 → BufferFits c sp j)
    (hpair : ∀ j, j < 18 → ∀ k, k < 18 → j < k → PairOk c j k) (hfail : ¬ AdcFits c sp) :
    firstFailure (c.layoutChecks sp) = some ⟨.cfgLayout, 0xFF⟩ := by
  rw [Cfg.layoutChecks, firstFailure_append, firstFailure_append, firstFailure_append, layout_aligned hall, layout_fits hfits,
    layout_pairs hpair]
  exact if_neg (by simpa using hfail)

end

/-! ## Channels -/

theorem chan_eq_getElem (s : State) {p : Nat} (hp : p < 12) : s.chan p = s.dma[p] := by
  simp [State.chan, tabGet, List.getD, hp]

/-- The channels are a table, read by `chan`. -/
theorem dma_ext {s : State} {d : Vector Chan 12} (h : ∀ p (hp : p < 12), s.chan p = d[p]) : s.dma = d :=
  Vector.ext fun p hp => (chan_eq_getElem s hp).symm.trans (h p hp)

theorem leastChan_eq_none {s : State} {bad : Chan → Bool} {ps : List Nat} (h : ∀ p ∈ ps, bad (s.chan p) = false) :
    s.leastChan bad ps = none :=
  List.find?_eq_none.mpr fun p hp => by simp [h p hp]

theorem leastChan_eq_some {s : State} {bad : Chan → Bool} {n p : Nat} (hp : p < n) (hbad : bad (s.chan p) = true)
    (hleast : ∀ q, q < p → bad (s.chan q) = false) : s.leastChan bad (List.range n) = some p := by
  rw [State.leastChan, List.find?_range_eq_some]
  exact ⟨hbad, List.mem_range.mpr hp, fun q hq => by simp [hleast q hq]⟩

/-- Programming channels replaces them and nothing else (R215). -/
theorem program_eq (s : State) {ps : List Nat} (hps : ∀ p ∈ ps, p < 12) :
    s.program ps = { s with dma := Vector.ofFn fun p : Fin 12 => if p.val ∈ ps then s.pipelineChan p else s.chan p } := by
  induction ps generalizing s with
  | nil =>
    have hdma : s.dma = Vector.ofFn fun p : Fin 12 => s.chan p := dma_ext fun p hp => by simp
    simp only [State.program, List.not_mem_nil, if_false]
    rw [← hdma]
  | cons p ps ih =>
    have hp : p < 12 := hps p List.mem_cons_self
    rw [State.program, ih _ fun q hq => hps q (List.mem_cons_of_mem p hq), State.setChan]
    have hchan (q : Nat) := chan_setChan s p q (s.pipelineChan p) hp
    have hshape (q : Nat) : (s.setChan p (s.pipelineChan p)).pipelineChan q = s.pipelineChan q := rfl
    congr 1
    refine Vector.ext fun q hq => ?_
    simp only [Vector.getElem_ofFn, ← State.setChan.eq_1, hchan, hshape, List.mem_cons]
    by_cases hqp : q = p <;> simp [hqp]

/-- The descriptors of R215. -/
theorem pipelineChan_eq (s : State) {p : Nat} (hp : p < 11) : s.pipelineChan p = pipeline s.act p := by
  interval_cases p <;> rfl

/-- Programming channels `lo` to 10 (R215). -/
theorem program_range (s : State) {lo : Nat} {ps : List Nat} (hps : ∀ p, p ∈ ps ↔ lo ≤ p ∧ p < 11) :
    s.program ps = { s with dma := withChans s lo 11 fun p _ => pipeline s.act p } := by
  rw [program_eq s fun p hp => by have := ((hps p).mp hp).2; omega]
  congr 1
  refine Vector.ext fun p hp => ?_
  simp only [withChans, Vector.getElem_ofFn, hps]
  by_cases hin : lo ≤ p ∧ p < 11
  · rw [if_pos hin, if_pos hin, pipelineChan_eq s hin.2]
  · rw [if_neg hin, if_neg hin]

theorem mem_range_eleven (p : Nat) : p ∈ List.range 11 ↔ 0 ≤ p ∧ p < 11 := by simp

/-! ## CFG.COMMIT -/

theorem admitted_cfgCommit {m : Mode} (hm : m = .unconfigured ∨ m = .configured) : admitted .cfgCommit m = true := by
  rcases hm with rfl | rfl <;> rfl

/-- A command admitted in the mode, whose body raises, is that Fatal (R130, R352). -/
theorem exec_faulted {i : Instr} {body : Seqr Unit} {s t : State} {f : Fatal} (hbody : bodyOf i = thenDone body)
    (hadm : admitted i s.mode = true) (h : body s = .error f t) : exec i s = .next (faulted t f.code.num f.info) := by
  rw [exec_eq, hbody, command_admitted hadm, settle_thenDone, h, ← fatal_eq_faulted]

/-- A command admitted in the mode, whose body answers, completes (R130 stage 5). -/
theorem exec_done {i : Instr} {body : Seqr Unit} {s t : State} (hbody : bodyOf i = thenDone body)
    (hadm : admitted i s.mode = true) (h : body s = .ok () t) : exec i s = .next (done t) := by
  rw [exec_eq, hbody, command_admitted hadm, settle_thenDone, h, ← complete_eq_done]

theorem leastBusy_eq_none {s : State} (hidle : ∀ p, p < 12 → (s.chan p).xfer.isBusy = false) :
    s.leastChan (fun c => c.xfer.isBusy) (List.range 12) = none :=
  leastChan_eq_none fun p hp => hidle p (List.mem_range.mp hp)

theorem cfgCommitBody_busy {s : State} {p : Nat} (hp : p < 12) (hbusy : (s.chan p).xfer.isBusy = true)
    (hleast : ∀ q, q < p → (s.chan q).xfer.isBusy = false) : cfgCommitBody s = .error ⟨.dmaProtocol, p⟩ s := by
  rw [cfgCommitBody_eq, seqr_bind, seqr_get, thenWith_ok, seqr_bind,
    leastChan_eq_some (bad := fun c => c.xfer.isBusy) hp hbusy hleast]
  rfl

theorem cfgCommitBody_check {s : State} {f : Fatal} (hidle : ∀ p, p < 12 → (s.chan p).xfer.isBusy = false)
    (h : firstFailure s.stg.checks = some f) : cfgCommitBody s = .error f s := by
  rw [cfgCommitBody_eq, seqr_bind, seqr_get, thenWith_ok, leastBusy_eq_none hidle, h]
  rfl

theorem cfgCommitBody_layout {s : State} {f : Fatal} (hidle : ∀ p, p < 12 → (s.chan p).xfer.isBusy = false)
    (hchecks : firstFailure s.stg.checks = none) (h : firstFailure (s.stg.layoutChecks s.spaces) = some f) :
    cfgCommitBody s = .error f s := by
  rw [cfgCommitBody_eq, seqr_bind, seqr_get, thenWith_ok, leastBusy_eq_none hidle, hchecks, h]
  rfl

/-- With every check passed, the latch, the pipeline and the mode follow (R134). -/
theorem cfgCommitBody_legal {s : State} (hidle : ∀ p, p < 12 → (s.chan p).xfer.isBusy = false)
    (hchecks : firstFailure s.stg.checks = none) (hlayout : firstFailure (s.stg.layoutChecks s.spaces) = none) :
    cfgCommitBody s = .ok () { (s.latch.program (List.range 11)).setChan 11 Chan.zero with mode := .configured } := by
  have hlatched : s.latch.leastChan (fun c => !c.xfer.isIdle) (List.range 11) = none := by
    refine leastChan_eq_none fun p hp => ?_
    have hp' : p < 12 := by have := List.mem_range.mp hp; omega
    rw [chan_eq_getElem _ hp']
    simp [State.latch, State.bmpClear, Xfer.isIdle]
  rw [cfgCommitBody_eq, seqr_bind, seqr_get, thenWith_ok, leastBusy_eq_none hidle, hchecks, hlayout]
  simp only [raiseFound, seqr_bind, refuseChan_none, seqr_pure, seqr_modify, thenWith_ok, programPipeline_eq, hlatched]

theorem firstFailure_check {c : Cfg} {n : Nat} (hlo : 1 ≤ n) (hhi : n ≤ 11) (hprev : ∀ m, m < n → CheckHolds c m)
    (hfail : ¬ CheckHolds c n) :
    firstFailure c.checks = some ⟨if n = 6 ∨ n = 7 then .cfgCfarMode else .cfgInvalid, n⟩ := by
  obtain ⟨k, rfl⟩ := Nat.exists_eq_add_of_le' hlo
  have hk : k < 11 := hhi
  rw [firstFailure_eq_some (l := c.checks) (k := k) hk (fun j hj => (checks_iff (hj.trans hk) fun m hm => hprev m (by omega)).mpr
    (hprev (j + 1) (by omega))) (by rwa [← Bool.not_eq_true, checks_iff hk hprev]), checks_fatal c hk]

/-- Settles O18: a busy channel first, then the first of the eleven checks that fails. -/
theorem commitRaisesTheFirstFailingCheck : Obligations.CommitRaisesTheFirstFailingCheck := by
  intro s hm
  have hadm := admitted_cfgCommit hm
  constructor
  · exact fun p hp hbusy hleast => exec_faulted rfl hadm (cfgCommitBody_busy hp hbusy hleast)
  · intro hidle n hlo hhi hprev hfail
    rw [exec_faulted rfl hadm (cfgCommitBody_check hidle (firstFailure_check hlo hhi hprev hfail))]
    dsimp only
    split <;> rfl

/-- Settles O19: the layout checks one after the other, the least buffer that fails each. -/
theorem commitRaisesLayoutFaults : Obligations.CommitRaisesLayoutFaults := by
  intro s hm hidle hchecks
  have hadm := admitted_cfgCommit hm
  have hfault {f : Fatal} (h : firstFailure (s.stg.layoutChecks s.spaces) = some f) :
      exec .cfgCommit s = .next (faulted s f.code.num f.info) :=
    exec_faulted rfl hadm (cfgCommitBody_layout hidle (firstFailure_checks hchecks) h)
  refine ⟨fun k hk hbefore hfail => hfault (layout_misaligned hk hbefore hfail), fun hall =>
    ⟨fun k hk hbefore hfail => hfault (layout_unfit hall hk hbefore hfail), fun hfits => ⟨?_, ?_⟩⟩⟩
  · exact fun j k hjk hk hbefore hfail => hfault (layout_overlap hall hfits (hjk.trans hk)
      (fun i hi l hl hil => hbefore i l hi hil hl) fun h => hfail (h k hk hjk))
  · exact fun hpair hfail => hfault (layout_adc hall hfits (fun j _ k hk hjk => hpair j k hjk hk) hfail)

/-- The channels as CFG.COMMIT leaves them (R134 (5), R215). -/
theorem latch_chans (s : State) : ((s.latch.program (List.range 11)).setChan 11 Chan.zero).dma
    = withChans s 0 12 fun p _ => if p = 11 then Chan.zero else pipeline s.stg p := by
  refine dma_ext fun p hp => ?_
  rw [chan_setChan _ _ _ _ (by decide), program_range s.latch mem_range_eleven]
  by_cases h11 : p = 11
  · simp [withChans, h11]
  · rw [if_neg h11, chan_eq_getElem _ hp]
    simp [withChans, h11, show p < 11 by omega, State.latch, State.bmpClear]

/-- Settles O20: every effect of R134 on a configuration that passes every check. -/
theorem commitLatchesTheConfiguration : Obligations.CommitLatchesTheConfiguration := by
  intro s hm hidle ⟨hchecks, hlayout⟩
  rw [exec_done rfl (admitted_cfgCommit hm)
    (cfgCommitBody_legal hidle (firstFailure_checks hchecks) (firstFailure_layout hlayout)), ← latch_chans,
    program_range s.latch mem_range_eleven]
  rfl

/-! ## RUN.START -/

theorem winInfo_ok_iff (w : WinInfo) (len : Nat) : w.ok len = true ↔ Usable w len := by
  simp [WinInfo.ok, Usable, and_assoc]

theorem runStartBody_noWindow1 {s : State} (h : s.winOk1D = false) : runStartBody s = .error ⟨.cfgWindow, 0⟩ s := by
  rw [runStartBody_eq, seqr_bind, seqr_get, thenWith_ok, h]
  rfl

theorem runStartBody_noWindow2 {s : State} (h1 : s.winOk1D = true) (h2 : s.winOk2D = false) :
    runStartBody s = .error ⟨.cfgWindow, 1⟩ s := by
  rw [runStartBody_eq, seqr_bind, seqr_get, thenWith_ok, h1, h2]
  rfl

theorem runStartBody_notIdle {s : State} {p : Nat} (h1 : s.winOk1D = true) (h2 : s.winOk2D = true) (hp : p < 12)
    (hnot : (s.chan p).xfer.isIdle = false) (hleast : ∀ q, q < p → (s.chan q).xfer.isIdle = true) :
    runStartBody s = .error ⟨.dmaProtocol, p⟩ s := by
  rw [runStartBody_eq, seqr_bind, seqr_get, thenWith_ok, h1, h2,
    leastChan_eq_some (bad := fun c => !c.xfer.isIdle) hp (by simp [hnot]) fun q hq => by simp [hleast q hq]]
  rfl

theorem leastPending_eq_none {s : State} {ps : List Nat} (hidle : ∀ p ∈ ps, (s.chan p).xfer.isIdle = true) :
    s.leastChan (fun c => !c.xfer.isIdle) ps = none :=
  leastChan_eq_none fun p hp => by simp [hidle p hp]

theorem runStartBody_ok {s : State} (h1 : s.winOk1D = true) (h2 : s.winOk2D = true)
    (hidle : ∀ p, p < 12 → (s.chan p).xfer.isIdle = true) :
    runStartBody s = .ok () { s.beginRun.program (List.range 11) with mode := .running } := by
  rw [runStartBody_eq, seqr_bind, seqr_get, thenWith_ok, h1, h2,
    leastPending_eq_none fun p hp => hidle p (List.mem_range.mp hp)]
  have hbegun : s.beginRun.leastChan (fun c => !c.xfer.isIdle) (List.range 11) = none :=
    leastPending_eq_none fun p hp => hidle p (by have := List.mem_range.mp hp; omega)
  simp only [seqr_bind, seqr_require, refuseChan_none, seqr_modify, thenWith_ok, programPipeline_eq, hbegun, if_true]

theorem isIdle_iff (x : Xfer) : x.isIdle = true ↔ x = .idle := by
  cases x <;> simp [Xfer.isIdle]

/-- Settles O21: the two windows, the channels, the counters and descriptors of a new run. -/
theorem runStartBeginsARun : Obligations.RunStartBeginsARun := by
  refine ⟨fun s => ⟨winInfo_ok_iff _ _, winInfo_ok_iff _ _⟩, fun s hm => ?_⟩
  have hadm : admitted .runStart s.mode = true := by rw [hm]; rfl
  refine ⟨fun h => exec_faulted rfl hadm (runStartBody_noWindow1 h),
    fun h1 h2 => exec_faulted rfl hadm (runStartBody_noWindow2 h1 h2), fun h1 h2 => ⟨fun p hp hnot hleast => ?_, fun hidle => ?_⟩⟩
  · exact exec_faulted rfl hadm (runStartBody_notIdle h1 h2 hp (by rwa [← Bool.not_eq_true, isIdle_iff])
      fun q hq => (isIdle_iff _).mpr (hleast q hq))
  · rw [exec_done rfl hadm (runStartBody_ok h1 h2 fun p hp => (isIdle_iff _).mpr (hidle p hp)),
      program_range s.beginRun mem_range_eleven, State.beginRun]
    simp only [Bool.and_eq_true, decide_eq_true_eq]
    rfl

/-! ## RUN.STOP -/

/-- A channel whose completion is consumed. -/
def consumed (_ : Nat) (c : Chan) : Chan := { c with xfer := .idle }

theorem withChans_empty (s : State) (lo : Nat) (f : Nat → Chan → Chan) : withChans s lo lo f = s.dma :=
  (dma_ext fun p hp => by simp [withChans, show ¬ (lo ≤ p ∧ p < lo) by omega]).symm

/-- Draining the channels from `lo` on, none of the next `k` with a transfer pending (R136 step 2). -/
theorem stopDrain_skip (k m : Nat) {lo : Nat} {s : State} (hlo : lo + k ≤ 12)
    (hidle : ∀ p, lo ≤ p → p < lo + k → (s.chan p).xfer.isBusy = false) :
    stopDrain (List.range' lo (k + m)) s
      = stopDrain (List.range' (lo + k) m) { s with dma := withChans s lo (lo + k) consumed } := by
  induction k generalizing lo s with
  | zero => rw [Nat.zero_add, Nat.add_zero, withChans_empty]
  | succ k ih =>
    have hlt : lo < 12 := by omega
    have hnot : (s.chan lo).xfer.isBusy = false := hidle lo le_rfl (by omega)
    have hconsume : stopDrain (List.range' lo (k + 1 + m)) s = stopDrain (List.range' (lo + 1) (k + m)) (s.consume lo) := by
      rw [show k + 1 + m = (k + m) + 1 by omega, List.range'_succ]
      change (if (s.chan lo).xfer.isIdle then stopDrain _ else awaitThen lo (.stop (lo + 1)) (stopDrain _) : Seqr Flow) s = _
      cases hx : (s.chan lo).xfer with
      | idle =>
        have hsame : s.consume lo = s := by
          have hdma : (s.consume lo).dma = s.dma := dma_ext fun p hp => by
            rw [State.consume, chan_setChan _ _ _ _ hlt, ← chan_eq_getElem _ hp]
            split
            · next heq => rw [heq, ← hx]
            · rfl
          exact congrArg (fun d => { s with dma := d }) hdma
        rw [hsame]
        rfl
      | busy d => rw [hx] at hnot; cases hnot
      | done d =>
        rw [if_neg (by simp [Xfer.isIdle])]
        exact awaitThen_done _ _ _ _ hlt (by rw [hx]; rfl)
    have hchan (p : Nat) : (s.consume lo).chan p = if p = lo then { s.chan lo with xfer := .idle } else s.chan p :=
      chan_setChan s lo p _ hlt
    rw [hconsume, ih (by omega) fun p hp hp' => by rw [hchan, if_neg (by omega)]; exact hidle p (by omega) (by omega)]
    have hdma : withChans (s.consume lo) (lo + 1) (lo + 1 + k) consumed = withChans s lo (lo + (k + 1)) consumed := by
      refine Vector.ext fun p hp => ?_
      simp only [withChans, Vector.getElem_ofFn, hchan]
      by_cases hpl : p = lo
      · subst hpl
        rw [if_neg (by omega), if_pos rfl, if_pos (by omega)]
        rfl
      · rw [if_neg hpl]
        exact if_congr (by omega) rfl rfl
    rw [hdma, show lo + 1 + k = lo + (k + 1) by omega]
    rfl

theorem stopFrom_eq (lo : Nat) : stopFrom lo = stopDrain (List.range' lo (12 - lo)) := by
  change stopDrain ((List.range 12).drop lo) = _
  rw [List.range_eq_range', List.drop_range']
  simp

/-- A drain that meets no pending transfer ends the run (R136 step 3). -/
theorem stopFrom_ends {s : State} {lo : Nat} (hidle : ∀ p, lo ≤ p → p < 12 → (s.chan p).xfer.isBusy = false) :
    stopFrom lo s = .ok (.finish true) (State.endRun { s with dma := withChans s lo 12 consumed }) := by
  rw [stopFrom_eq]
  by_cases hlo : lo ≤ 12
  · rw [show 12 - lo = (12 - lo) + 0 by omega, stopDrain_skip _ _ (by omega) fun p h1 h2 => hidle p h1 (by omega),
      show lo + (12 - lo) = 12 by omega]
    rfl
  · have hnone : withChans s lo 12 consumed = s.dma :=
      (dma_ext fun p hp => by simp [withChans, show ¬ lo ≤ p by omega]).symm
    rw [show 12 - lo = 0 by omega, hnone]
    rfl

/-- A drain that meets a pending transfer waits for it (R136 step 2). -/
theorem stopFrom_waits {s : State} {lo p : Nat} (hlo : lo ≤ p) (hp : p < 12) (hbusy : (s.chan p).xfer.isBusy = true)
    (hidle : ∀ q, lo ≤ q → q < p → (s.chan q).xfer.isBusy = false) :
    stopFrom lo s = .ok (.wait p (.stop (p + 1))) { s with dma := withChans s lo p consumed } := by
  rw [stopFrom_eq, show 12 - lo = (p - lo) + ((11 - p) + 1) by omega,
    stopDrain_skip _ _ (by omega) fun q h1 h2 => hidle q h1 (by omega), show lo + (p - lo) = p by omega, List.range'_succ]
  have hchan : ({ s with dma := withChans s lo p consumed } : State).chan p = s.chan p := by
    rw [chan_eq_getElem _ hp]
    simp [withChans]
  change (if (({ s with dma := withChans s lo p consumed } : State).chan p).xfer.isIdle then stopDrain _
    else awaitThen p (.stop (p + 1)) (stopDrain _) : Seqr Flow) _ = _
  rw [hchan]
  cases hx : (s.chan p).xfer with
  | idle => rw [hx] at hbusy; cases hbusy
  | done d => rw [hx] at hbusy; cases hbusy
  | busy d =>
    rw [if_neg (by simp [Xfer.isIdle])]
    exact awaitThen_wait _ _ _ _ hp (by rw [hchan, hx]; rfl)

/-- Settles O22: the drain by induction over the channels, from the command and from where a wait resumes it. -/
theorem runStopDrainsTheChannels : Obligations.RunStopDrainsTheChannels := by
  intro s lo out u hstart
  obtain ⟨hout, hdma, hrest⟩ : out = .next (settle (stopFrom lo) u) ∧ (∀ lo hi f, withChans u lo hi f = withChans s lo hi f)
      ∧ (∀ p, u.chan p = s.chan p) ∧ u.chirpCount = s.chirpCount ∧ u.window = s.window ∧ u.act = s.act := by
    rcases hstart with ⟨hm, rfl, rfl, rfl⟩ | ⟨hseq, rfl, rfl⟩
    · refine ⟨?_, fun _ _ _ => rfl, fun _ => rfl, rfl, rfl, rfl⟩
      rw [exec_eq, command_admitted (by rw [hm]; rfl)]
      rfl
    · refine ⟨?_, fun _ _ _ => rfl, fun _ => rfl, rfl, rfl, rfl⟩
      rw [seqStep, hseq]
      rfl
  obtain ⟨hchan, hcount, hwindow, hact⟩ := hrest
  constructor
  · intro hidle
    rw [hout, settle, stopFrom_ends fun p h1 h2 => by rw [hchan]; exact hidle p h1 h2, hdma]
    simp only [State.endRun, complete_eq_done, hcount, hwindow, State.placeOf, State.buf, hact]
    rfl
  · intro p hlo hp hbusy hidle
    rw [hout, settle, stopFrom_waits hlo hp (by rwa [hchan]) fun q h1 h2 => by rw [hchan]; exact hidle q h1 h2, hdma]
    rfl

end Sys2Proof.Proofs.Control
end

section
/-! SUPPORT. What any step of any agent does to a part of the state (R4): who writes the configuration (R31, R49, R59), how the mode
changes (R131), what a halted block does (R355), who clears an interrupt bit (R361), and the legal configuration with its
decomposed counters (R35, R43). -/

namespace Sys2Proof.Proofs.Agents

open Sys2Proof.Machine Sys2Proof.Claim Sys2Proof.Proofs.ModuloChain Sys2Proof.Proofs.Carry Sys2Proof.Proofs.Steps
  Sys2Proof.Proofs.Invariants Sys2Proof.Proofs.Control

set_option Elab.async false

variable {R : State → State → Prop}

/-! ## The updates of every agent -/

/-- The relation survives every update of a command and, besides, those of the channels, of the host's ports but for its register
writes, and of the chirp event. -/
structure AgentUpdates (R : State → State → Prop) : Prop extends CommandUpdates R where
  place : ∀ (s : State) q, R s { s with seq := q }
  irq : ∀ (s : State) b, R s (s.raiseIrq b)
  agentBytes : ∀ (s : State) who a bs, R s (s.wrBytes who a bs)
  races : ∀ (s : State) v, R s { s with raced := v }
  readData : ∀ (s : State) v, R s { s with busData := v }
  portData : ∀ (s : State) v, R s { s with memData := v }
  past : ∀ (s : State) v, R s { s with argPast := v }
  chirp : ∀ s : State, R s { s with chirpToken := true, lateSamples := [] }
  counting : ∀ (s : State) rest, R s (counted s rest)

namespace AgentUpdates

variable (h : AgentUpdates R)
include h

theorem done (s : State) : R s s.complete :=
  h.trans s { s with seq := .idle } _ (h.place s .idle) (h.irq _ 2)

/-- The perform step is made of such updates, or it halts. -/
theorem perform (s : State) (p : Nat) : R s (s.perform p) ∨ ∃ f, s.perform p = s.fatal f := by
  have hflags (u : State) (d : Descr) : R u (u.finishTransfer p d) := by
    have hdone := h.trans _ _ _ (h.chan u p { u.chan p with xfer := .done d })
      (h.races _ ((u.setChan p { u.chan p with xfer := .done d }).raced.filter fun x => x.1 != p))
    simp only [State.finishTransfer]
    split
    · exact h.trans _ _ _ hdone (h.irq _ _)
    · exact hdone
  rcases perform_cases s p with heq | ⟨d, -, -, -, heq⟩ | ⟨d, -, -, -, heq⟩
  · rw [heq]
    exact .inl (h.refl s)
  · rw [heq]
    exact .inl (h.trans _ _ _
      (deliver_related h.toCarried (fun u => h.agentBytes u (.channel p)) d.dstride.toNat (s.fetch p d) d.dst.toNat s) (hflags _ d))
  · exact .inr ⟨_, heq⟩

/-- A settled piece of work is made of such updates, the last of them a Fatal or not. -/
theorem settle {body : Seqr Flow} (hb : Carries R body) (s : State) :
    R s (settle body s) ∨ ∃ u f, R s u ∧ Machine.settle body s = u.fatal f := by
  have hb' := hb s
  rcases settle_cases body s with ⟨f, t, heq, hset⟩ | ⟨f, t, heq, ⟨q, hset⟩ | hset⟩ <;> rw [heq] at hb' <;> rw [hset]
  · exact .inr ⟨t, f, hb', rfl⟩
  · exact .inl (h.trans _ _ _ hb' (h.place t q))
  · exact .inl (h.trans _ _ _ hb' (h.done t))

/-- An action but reset is made of such updates, the last of them a Fatal or not, where the command or the position that runs and
the register write that is made are. -/
theorem act {a : Action} {s t : State} (ha : act a s = .next t) (hreset : a ≠ .reset)
    (hbody : ∀ w i, s.seq = .cmd w → decode w = .ok i → admitted i s.mode = true → Carries R (bodyOf i))
    (hpos : ∀ q, s.seq = .pos q → Carries R (runPos q)) (hreg : ∀ off w, a = .regWrite off w → R s (s.writeReg off w)) :
    R s t ∨ ∃ u f, R s u ∧ t = u.fatal f := by
  cases a with
  | seq =>
    rcases seqStep_cases ha with rfl | ⟨-, -, -, rfl⟩ | ⟨w, i, hseq, hdec, hexec⟩ | ⟨w, -, rfl⟩ | ⟨q, hseq, rfl⟩ | ⟨p, q, -, rfl⟩
    · exact .inl (h.refl _)
    · exact .inl (h.place s _)
    · rcases exec_cases i s with ⟨hadm, heq⟩ | ⟨-, heq⟩ <;> rw [heq] at hexec <;> obtain rfl := Host.Outcome.next.inj hexec
      · exact h.settle (hbody w i hseq hdec hadm) s
      · exact .inr ⟨s, _, h.refl s, rfl⟩
    · exact .inr ⟨s, _, h.refl s, rfl⟩
    · exact h.settle (hpos q hseq) s
    · exact .inl (h.trans s (s.consume p) _ (h.chan s p _) (h.place _ _))
  | dma p =>
    obtain rfl := Host.Outcome.next.inj ha
    rcases h.perform s p with hR | ⟨f, heq⟩
    · exact .inl hR
    · exact .inr ⟨s, f, h.refl s, heq⟩
  | regRead off =>
    obtain rfl := Host.Outcome.next.inj ha
    exact .inl (h.readData s _)
  | regWrite off w =>
    obtain rfl := Host.Outcome.next.inj ha
    rcases busWrite_cases s off w with heq | ⟨f, heq⟩ | ⟨-, -, heq⟩ | heq <;> rw [heq]
    · exact .inl (h.refl s)
    · exact .inr ⟨s, f, h.refl s, rfl⟩
    · exact .inl (h.trans s { s with seq := .cmd w } _ (h.place s _) (h.past _ _))
    · exact .inl (hreg off w rfl)
  | memRead addr n =>
    obtain rfl := act_memRead ha
    exact .inl (h.portData s _)
  | memWrite addr bs =>
    obtain rfl := act_memWrite ha
    exact .inl (h.agentBytes s _ _ _)
  | chirp =>
    obtain rfl := Host.Outcome.next.inj ha
    rcases chirpEvent_cases s with heq | ⟨f, heq⟩ | heq <;> rw [heq]
    · exact .inl (h.refl s)
    · exact .inr ⟨s, f, h.refl s, rfl⟩
    · exact .inl (h.chirp s)
  | reset => exact absurd rfl hreset

/-- A step but reset is made of such updates, the last of them a Fatal or not. -/
theorem step {s t : State} (hs : step s = .next t) (hreset : s.agenda.head? ≠ some .reset)
    (hbody : ∀ w i, s.seq = .cmd w → decode w = .ok i → admitted i s.mode = true → Carries R (bodyOf i))
    (hpos : ∀ q, s.seq = .pos q → Carries R (runPos q))
    (hreg : ∀ off w u, s.agenda.head? = some (.regWrite off w) → R u (u.writeReg off w)) :
    R s t ∨ ∃ u f, R s u ∧ t = u.fatal f := by
  rcases step_cases hs with rfl | ⟨a, rest, hact, hwho⟩
  · exact .inl (h.refl _)
  · have hhost (ha : a ≠ .seq ∧ ∀ p, a ≠ .dma p) : s.agenda.head? = some a := by
      rcases hwho with hhead | ⟨-, rfl | ⟨p, rfl⟩⟩
      · exact hhead
      · exact absurd rfl ha.1
      · exact absurd rfl (ha.2 p)
    have hR := h.act hact (by rintro rfl; exact hreset (hhost ⟨nofun, nofun⟩)) hbody hpos
      fun off w ha => hreg off w _ (ha ▸ hhost (by subst ha; exact ⟨nofun, nofun⟩))
    rcases hR with hR | ⟨u, f, hR, rfl⟩
    · exact .inl (h.trans _ _ _ (h.counting s rest) hR)
    · exact .inr ⟨u, f, h.trans _ _ _ (h.counting s rest) hR, rfl⟩

/-- A step of a relation that a Fatal keeps too. -/
theorem step_of_fatal (hfatal : ∀ (s : State) f, R s (s.fatal f)) {s t : State} (hs : Machine.step s = .next t)
    (hreset : s.agenda.head? ≠ some .reset)
    (hbody : ∀ w i, s.seq = .cmd w → decode w = .ok i → admitted i s.mode = true → Carries R (bodyOf i))
    (hpos : ∀ q, s.seq = .pos q → Carries R (runPos q))
    (hreg : ∀ off w u, s.agenda.head? = some (.regWrite off w) → R u (u.writeReg off w)) : R s t := by
  rcases h.step hs hreset hbody hpos hreg with hR | ⟨u, f, hR, rfl⟩
  · exact hR
  · exact h.trans _ _ _ hR (hfatal u f)

end AgentUpdates

/-- The positions of the sequencer, with what a run's end and the two sequences do besides (R25). -/
theorem AgentUpdates.runPos (h : AgentUpdates R) {q : Pos} (hstop : ∀ p, q = .stop p → ∀ s : State, R s s.endRun)
    (hstart : ∀ s : State, R s s.chirpStart)
    (hcount : ∀ s : State, R s { s.moduloChain.1 with chirpScr := { s.chirpScr with last := s.moduloChain.2 } })
    (hmark : ∀ s : State, R s { s with frameToken := true }) (hend : ∀ s : State, R s { s with chirpToken := false })
    (hframe : ∀ s : State, R s { s with frameCount := s.frameCount + 1, frameToken := false }) : Carries R (runPos q) := by
  cases q with
  | complete => exact carries_pure h.toCarried _
  | stop p => exact carries_stopDrain h.toCarried h.chan (hstop p rfl) _
  | angle i => exact carries_angleResume h.toCarried h.setObj h.addObj h.res0 i
  | chirp q byCmd => exact h.chirpPhase (fun _ => hstart) (fun _ => hcount) (fun _ => hmark) (fun _ => hend)
  | frame q byCmd => exact h.framePhase fun _ => hframe

/-- Relations that follow from a stricter one inherit its updates. -/
theorem AgentUpdates.mono {S : State → State → Prop} (h : AgentUpdates S) (hR : Carried R) (hSR : ∀ s t, S s t → R s t) :
    AgentUpdates R where
  toCommandUpdates := commandUpdates_mono h.toCommandUpdates hR hSR
  place s q := hSR _ _ (h.place s q)
  irq s b := hSR _ _ (h.irq s b)
  agentBytes s who a bs := hSR _ _ (h.agentBytes s who a bs)
  races s v := hSR _ _ (h.races s v)
  readData s v := hSR _ _ (h.readData s v)
  portData s v := hSR _ _ (h.portData s v)
  past s v := hSR _ _ (h.past s v)
  chirp s := hSR _ _ (h.chirp s)
  counting s rest := hSR _ _ (h.counting s rest)

/-- A field is as before. -/
def Same {α : Type} (f : State → α) (s t : State) : Prop := f t = f s

theorem carried_same {α : Type} (f : State → α) : Carried (Same f) := ⟨fun _ => rfl, fun _ _ _ h1 h2 => h2.trans h1⟩

/-! ## The setup of the block -/

/-- What configures the block besides the staging registers: the mode, the active configuration with its two views, the chirp
counters, the spaces and the window tables. -/
structure Setup where
  mode : Mode
  act : Cfg
  spaces : Spaces
  numVirtAnt : Word
  chirpsPerFrame : Word
  chirpCount : BitVec 12
  txAntCount : BitVec 2
  dopBinCount : BitVec 11
  win1d : Vector Half 512
  win1dInfo : WinInfo
  win2d : Vector Word 512
  win2dInfo : WinInfo

/-- The setup of a state. -/
def setup (s : State) : Setup :=
  ⟨s.mode, s.act, s.spaces, s.numVirtAnt, s.chirpsPerFrame, s.chirpCount, s.txAntCount, s.dopBinCount, s.win1d, s.win1dInfo,
    s.win2d, s.win2dInfo⟩

theorem setup_wrBytes (s : State) (who : Agent) (a : Nat) (bs : List Byte) : setup (s.wrBytes who a bs) = setup s := by
  simp only [setup, wrBytes_mode, wrBytes_act, wrBytes_spaces, wrBytes_numVirtAnt, wrBytes_chirpsPerFrame, wrBytes_chirpCount,
    wrBytes_txAntCount, wrBytes_dopBinCount, wrBytes_win1d, wrBytes_win1dInfo, wrBytes_win2d, wrBytes_win2dInfo]

theorem agentUpdates_setup : AgentUpdates (Same setup) where
  toCarried := carried_same setup
  chan _ _ _ := rfl
  bytes s a bs := setup_wrBytes s _ a bs
  dcSum _ _ := rfl
  dcCount _ _ := rfl
  window _ _ := rfl
  bmpWord _ _ := rfl
  bmpCursor _ _ := rfl
  frameScr _ _ := rfl
  noRaw _ := rfl
  noObjs _ := rfl
  addRaw s r d p := by unfold State.addRaw; split <;> rfl
  addObj s o := by unfold State.addObj; split <;> rfl
  setObj _ _ _ := rfl
  outDesc _ _ := rfl
  publish _ _ _ := rfl
  drop _ := rfl
  res0 _ _ := rfl
  res1 _ _ := rfl
  place _ _ := rfl
  irq _ _ := rfl
  agentBytes := setup_wrBytes
  races _ _ := rfl
  readData _ _ := rfl
  portData _ _ := rfl
  past _ _ := rfl
  chirp _ := rfl
  counting _ _ := rfl

/-- A register write sets up nothing but the staging registers (R21). -/
theorem setup_writeReg (s : State) (off : Nat) (w : Word) : setup (s.writeReg off w) = setup s := by
  rcases writeReg_cases s off w with ⟨v, heq⟩ | ⟨v, past, heq⟩ | ⟨-, heq⟩ | heq | ⟨v, heq⟩ | ⟨c, heq⟩ <;> rw [heq] <;> rfl

section
variable {α : Type} (f : Setup → α)

/-- A field of the setup is as before. -/
abbrev SameIn (s t : State) : Prop := f (setup t) = f (setup s)

theorem carried_sameIn : Carried (SameIn f) := ⟨fun _ => rfl, fun _ _ _ h1 h2 => h2.trans h1⟩

theorem agentUpdates_sameIn : AgentUpdates (SameIn f) :=
  agentUpdates_setup.mono (carried_sameIn f) fun _ _ h => congrArg f h

end

theorem setup_moduloChain (s : State) :
    setup { s.moduloChain.1 with chirpScr := { s.chirpScr with last := s.moduloChain.2 } }
      = { setup s with
          chirpCount := s.moduloChain.1.chirpCount
          txAntCount := s.moduloChain.1.txAntCount
          dopBinCount := s.moduloChain.1.dopBinCount } := by
  rw [moduloChain_frame s]
  rfl

/-- The positions leave every field of the setup alone but the mode, at a run's end, and the chirp counters. -/
theorem sameIn_runPos {α : Type} (f : Setup → α) (hmode : ∀ x m, f { x with mode := m } = f x)
    (hcount : ∀ x a b c, f { x with chirpCount := a, txAntCount := b, dopBinCount := c } = f x) (q : Pos) :
    Carries (SameIn f) (runPos q) :=
  (agentUpdates_sameIn f).runPos (fun _ _ s => hmode (setup s) .configured) (fun _ => rfl)
    (fun s => (congrArg f (setup_moduloChain s)).trans (hcount ..)) (fun _ => rfl) (fun _ => rfl) (fun _ => rfl)

/-! ## Who writes the configuration (R31, R49, R59) -/

/-- A field of the setup that only some commands write moves only by them. -/
theorem sameIn_step {α : Type} (f : Setup → α) {s t : State} (hs : step s = .next t) (hreset : s.agenda.head? ≠ some .reset)
    (hmode : ∀ x m, f { x with mode := m } = f x)
    (hcount : ∀ x a b c, f { x with chirpCount := a, txAntCount := b, dopBinCount := c } = f x)
    (hbody : ∀ w i, s.seq = .cmd w → decode w = .ok i → Carries (SameIn f) (bodyOf i)) : SameIn f s t :=
  (agentUpdates_sameIn f).step_of_fatal (fun u _ => hmode (setup u) .halted) hs hreset (fun w i hseq hdec _ => hbody w i hseq hdec)
    (fun q _ => sameIn_runPos f hmode hcount q) fun off w u _ => congrArg f (setup_writeReg u off w)

/-- Updates of the staging registers: none but the host's and reset's. -/
theorem stg_step {s t : State} (hs : step s = .next t) (hreset : s.agenda.head? ≠ some .reset)
    (hreg : ∀ off w, s.agenda.head? ≠ some (.regWrite off w)) : t.stg = s.stg := by
  have hbytes (s : State) who a bs : (s.wrBytes who a bs).stg = s.stg := wrBytes_stg ..
  have hup : AgentUpdates (Same State.stg) :=
    { toCarried := carried_same _
      chan := fun _ _ _ => rfl
      bytes := fun s a bs => hbytes s _ a bs
      dcSum := fun _ _ => rfl
      dcCount := fun _ _ => rfl
      window := fun _ _ => rfl
      bmpWord := fun _ _ => rfl
      bmpCursor := fun _ _ => rfl
      frameScr := fun _ _ => rfl
      noRaw := fun _ => rfl
      noObjs := fun _ => rfl
      addRaw := fun s r d p => by unfold State.addRaw; split <;> rfl
      addObj := fun s o => by unfold State.addObj; split <;> rfl
      setObj := fun _ _ _ => rfl
      outDesc := fun _ _ => rfl
      publish := fun _ _ _ => rfl
      drop := fun _ => rfl
      res0 := fun _ _ => rfl
      res1 := fun _ _ => rfl
      place := fun _ _ => rfl
      irq := fun _ _ => rfl
      agentBytes := hbytes
      races := fun _ _ => rfl
      readData := fun _ _ => rfl
      portData := fun _ _ => rfl
      past := fun _ _ => rfl
      chirp := fun _ => rfl
      counting := fun _ _ => rfl }
  refine hup.step_of_fatal (fun _ _ => rfl) hs hreset (fun _ i _ _ _ => ?_) (fun q _ => ?_) fun off w u hw => absurd hw (hreg off w)
  · exact hup.bodyOf (fun _ => ⟨fun _ => rfl, fun _ => rfl⟩) (fun _ => ⟨fun _ => rfl, fun _ => rfl⟩)
      (fun _ => ⟨fun _ => rfl, fun _ => rfl⟩) (fun table _ _ _ _ _ _ => by cases table <;> rfl) (fun _ _ => rfl) (fun _ _ => rfl)
  · exact hup.runPos (fun _ _ _ => rfl) (fun _ => rfl) (fun s => show s.moduloChain.1.stg = s.stg by rw [moduloChain_frame s]) (fun _ => rfl)
      (fun _ => rfl) (fun _ => rfl)

/-- Settles O15: each of the four parts moves by its one writer or not at all. -/
theorem configurationHasOneWriter : Obligations.ConfigurationHasOneWriter := by
  intro s t hs hreset
  refine ⟨fun hne => ?_, fun hne => ?_, fun hne => ?_, fun hne => ?_⟩ <;> by_contra hno
  · refine hne (sameIn_step Setup.act hs hreset (fun _ _ => rfl) (fun _ _ _ _ => rfl) fun w i hseq hdec => ?_)
    exact (agentUpdates_sameIn _).bodyOf (fun hi => absurd ⟨w, hseq, hi ▸ hdec⟩ hno) (fun _ => ⟨fun _ => rfl, fun _ => rfl⟩)
      (fun _ => ⟨fun _ => rfl, fun _ => rfl⟩) (fun table _ _ _ _ _ _ => by cases table <;> rfl) (fun _ _ => rfl) (fun _ _ => rfl)
  · have hsame : SameIn (fun x => (x.win1d, x.win1dInfo)) s t :=
      sameIn_step _ hs hreset (fun _ _ => rfl) (fun _ _ _ _ => rfl) fun w i hseq hdec =>
        (agentUpdates_sameIn _).bodyOf (fun _ => ⟨fun _ => rfl, fun _ => rfl⟩) (fun _ => ⟨fun _ => rfl, fun _ => rfl⟩)
          (fun _ => ⟨fun _ => rfl, fun _ => rfl⟩)
          (fun table kind hi _ _ _ _ => by
            cases table with
            | win1d => exact absurd ⟨w, kind, hseq, hi ▸ hdec⟩ hno
            | win2d => rfl)
          (fun _ _ => rfl) (fun _ _ => rfl)
    obtain ⟨htab, hinfo⟩ := Prod.mk.inj hsame
    exact hne.elim (fun h => h htab) fun h => h hinfo
  · have hsame : SameIn (fun x => (x.win2d, x.win2dInfo)) s t :=
      sameIn_step _ hs hreset (fun _ _ => rfl) (fun _ _ _ _ => rfl) fun w i hseq hdec =>
        (agentUpdates_sameIn _).bodyOf (fun _ => ⟨fun _ => rfl, fun _ => rfl⟩) (fun _ => ⟨fun _ => rfl, fun _ => rfl⟩)
          (fun _ => ⟨fun _ => rfl, fun _ => rfl⟩)
          (fun table kind hi _ _ _ _ => by
            cases table with
            | win1d => rfl
            | win2d => exact absurd ⟨w, kind, hseq, hi ▸ hdec⟩ hno)
          (fun _ _ => rfl) (fun _ _ => rfl)
    obtain ⟨htab, hinfo⟩ := Prod.mk.inj hsame
    exact hne.elim (fun h => h htab) fun h => h hinfo
  · exact hne (stg_step hs hreset fun off w hw => hno ⟨off, w, hw⟩)

/-! ## How the mode changes (R131) -/

/-- The mode is as before or the one a control command sets. -/
def ModeTo (o : Option Mode) (s t : State) : Prop := t.mode = s.mode ∨ o = some t.mode

theorem agentUpdates_modeTo (o : Option Mode) : AgentUpdates (ModeTo o) :=
  (agentUpdates_sameIn Setup.mode).mono
    ⟨fun _ => .inl rfl, fun _ _ _ h1 h2 => h2.elim (fun h => h1.imp (h.trans ·) fun h' => h'.trans (congrArg some h.symm)) .inr⟩
    fun _ _ h => .inl h

/-- The mode a command may set (R131). -/
def modeSetBy : Instr → Option Mode
  | .cfgCommit | .runStop => some .configured
  | .runStart => some .running
  | _ => none

theorem modeTo_bodyOf (i : Instr) : Carries (ModeTo (modeSetBy i)) (bodyOf i) :=
  (agentUpdates_modeTo _).bodyOf (by rintro rfl; exact ⟨fun _ => .inl rfl, fun _ => .inr rfl⟩)
    (by rintro rfl; exact ⟨fun _ => .inl rfl, fun _ => .inr rfl⟩) (by rintro rfl; exact ⟨fun _ => .inr rfl, fun _ => .inl rfl⟩)
    (fun table _ _ _ _ _ _ => by cases table <;> exact .inl rfl) (fun _ _ => .inl rfl) (fun _ _ => .inl rfl)

theorem modeTo_runPos {o : Option Mode} {q : Pos} (hstop : ∀ p, q = .stop p → o = some .configured) :
    Carries (ModeTo o) (runPos q) :=
  (agentUpdates_modeTo o).runPos (fun p hp _ => .inr (hstop p hp)) (fun _ => .inl rfl)
    (fun s => .inl (congrArg Setup.mode (setup_moduloChain s))) (fun _ => .inl rfl) (fun _ => .inl rfl) (fun _ => .inl rfl)

/-- The mode the sequencer may set where it stands. -/
def modeSetAt (s : State) : Option Mode :=
  match s.seq with
  | .cmd w =>
    match decode w with
    | .ok i => if admitted i s.mode then modeSetBy i else none
    | .error _ => none
  | .pos (.stop _) => some .configured
  | _ => none

theorem modeTo_step {s t : State} (hs : step s = .next t) (hreset : s.agenda.head? ≠ some .reset) :
    ModeTo (modeSetAt s) s t ∨ ∃ u f, t = State.fatal u f := by
  have hbody (w : Word) (i : Instr) (hseq : s.seq = .cmd w) (hdec : decode w = .ok i) (hadm : admitted i s.mode = true) :
      Carries (ModeTo (modeSetAt s)) (bodyOf i) := by
    have hset : modeSetAt s = modeSetBy i := by simp only [modeSetAt, hseq, hdec, hadm, if_true]
    rw [hset]
    exact modeTo_bodyOf i
  have hpos (q : Pos) (hseq : s.seq = .pos q) : Carries (ModeTo (modeSetAt s)) (runPos q) :=
    modeTo_runPos fun p hp => by simp only [modeSetAt, hseq, hp]
  rcases (agentUpdates_modeTo _).step hs hreset hbody hpos fun off w u _ => .inl (congrArg Setup.mode (setup_writeReg u off w)) with
    hR | ⟨u, f, -, ht⟩
  · exact .inl hR
  · exact .inr ⟨u, f, ht⟩

/-- Where the sequencer may set the mode (R131). -/
theorem modeSetAt_cases {s : State} {m : Mode} (h : modeSetAt s = some m) :
    (∃ w i, s.seq = .cmd w ∧ decode w = .ok i ∧ admitted i s.mode = true ∧ modeSetBy i = some m)
      ∨ ∃ p, s.seq = .pos (.stop p) ∧ m = .configured := by
  unfold modeSetAt at h
  split at h
  · next w hseq =>
    split at h
    · next i hdec =>
      split at h
      · next hadm => exact .inl ⟨w, i, hseq, hdec, hadm, h⟩
      · cases h
    · cases h
  · next p hseq => exact .inr ⟨p, hseq, (Option.some.inj h).symm⟩
  · cases h

/-- After reset the block is unconfigured (R390). -/
theorem reset_mode {s t : State} (hs : step s = .next t) (hreset : s.agenda.head? = some .reset) : t.mode = .unconfigured := by
  unfold step at hs
  split at hs
  · next a rest hagenda =>
    rw [hagenda] at hreset
    cases hreset
    exact Host.Outcome.next.inj hs ▸ rfl
  · next hagenda =>
    rw [hagenda] at hreset
    cases hreset

/-- Settles O7: a step that changes the mode is reset, a Fatal, or the command or position that sets it. -/
theorem modeChangesOnlyAsListed : Obligations.ModeChangesOnlyAsListed := by
  intro s t hs hne
  by_cases hreset : s.agenda.head? = some .reset
  · exact .inl ⟨reset_mode hs hreset, hreset⟩
  · rcases modeTo_step hs hreset with (hmode | hset) | ⟨u, f, rfl⟩
    · exact absurd hmode hne
    · rcases modeSetAt_cases hset with ⟨w, i, hseq, hdec, hadm, hi⟩ | ⟨p, hseq, hm⟩
      · unfold modeSetBy at hi
        split at hi
        · have hm := Option.some.inj hi
          have hold : s.mode = .unconfigured ∨ s.mode = .configured := by
            revert hadm
            cases s.mode <;> simp [admitted]
          exact .inr (.inr (.inl ⟨hold.resolve_right fun h => hne (hm.symm.trans h.symm), hm.symm, w, hseq, hdec⟩))
        · exact .inr (.inr (.inr (.inr ⟨(Option.some.inj hi).symm, .inl ⟨w, by simpa [admitted] using hadm, hseq, hdec⟩⟩)))
        · exact .inr (.inr (.inr (.inl ⟨by simpa [admitted] using hadm, (Option.some.inj hi).symm, w, hseq, hdec⟩)))
        · cases hi
      · exact .inr (.inr (.inr (.inr ⟨hm, .inr ⟨p, hseq⟩⟩)))
    · exact .inr (.inl ⟨rfl, rfl, by rw [Nop.fatal_eq_faulted, faulted, BitVec.getLsbD_or]; simp⟩)

/-! ## A halted block (R355) -/

/-- The perform step of a channel does nothing while the block is halted (R211). -/
theorem perform_halted {s : State} (hm : s.mode = .halted) (p : Nat) : s.perform p = s := by
  rcases perform_cases s p with heq | ⟨d, -, hne, -⟩ | ⟨d, -, hne, -⟩
  · exact heq
  · exact absurd hm hne
  · exact absurd hm hne

/-- An agent but reset does nothing to a halted block but store the host's bytes and answer its reads (R355, U2). -/
theorem act_halted {a : Action} {s t : State} (hm : s.mode = .halted) (hseq : s.seq = .halt) (hreset : a ≠ .reset)
    (h : act a s = .next t) :
    t = { s with mem := t.mem, raced := t.raced, lateSamples := t.lateSamples, busData := t.busData, memData := t.memData }
      ∧ ((∀ x bs, a ≠ .memWrite x bs) → t.mem = s.mem ∧ t.raced = s.raced ∧ t.lateSamples = s.lateSamples) := by
  cases a with
  | seq =>
    rw [act, seqStep, hseq] at h
    obtain rfl := Host.Outcome.next.inj h
    exact ⟨rfl, fun _ => ⟨rfl, rfl, rfl⟩⟩
  | dma p =>
    obtain rfl := Host.Outcome.next.inj h
    rw [perform_halted hm]
    exact ⟨rfl, fun _ => ⟨rfl, rfl, rfl⟩⟩
  | regRead off =>
    obtain rfl := Host.Outcome.next.inj h
    exact ⟨rfl, fun _ => ⟨rfl, rfl, rfl⟩⟩
  | regWrite off w =>
    obtain rfl := Host.Outcome.next.inj h
    rw [busWrite_halted hm]
    exact ⟨rfl, fun _ => ⟨rfl, rfl, rfl⟩⟩
  | memRead addr n =>
    obtain rfl := act_memRead h
    exact ⟨rfl, fun _ => ⟨rfl, rfl, rfl⟩⟩
  | memWrite addr bs =>
    obtain rfl := act_memWrite h
    have hframe := wrBytes_eq s .host addr.toNat bs
    exact ⟨by rw [wrBytes_busData, wrBytes_memData]; exact hframe, fun hno => absurd rfl (hno addr bs)⟩
  | chirp =>
    obtain rfl := Host.Outcome.next.inj h
    rw [State.chirpEvent, if_neg (by rw [hm]; nofun)]
    exact ⟨rfl, fun _ => ⟨rfl, rfl, rfl⟩⟩
  | reset => exact absurd rfl hreset

/-- Settles O9: one agent after the other, none of which a halted block follows. -/
theorem onlyResetLeavesHalted : Obligations.OnlyResetLeavesHalted := by
  intro s t hm hseq hs hreset
  rcases step_cases hs with rfl | ⟨a, rest, hact, hwho⟩
  · exact ⟨rfl, fun _ => ⟨rfl, rfl, rfl⟩⟩
  · have hhost (ha : a ≠ .seq ∧ ∀ p, a ≠ .dma p) : s.agenda.head? = some a := by
      rcases hwho with hhead | ⟨-, rfl | ⟨p, rfl⟩⟩
      · exact hhead
      · exact absurd rfl ha.1
      · exact absurd rfl (ha.2 p)
    obtain ⟨hframe, hmem⟩ := act_halted (s := counted s rest) hm hseq
      (by rintro rfl; exact hreset (hhost ⟨nofun, nofun⟩)) hact
    refine ⟨?_, fun hno => hmem ?_⟩
    · rw [hframe]
      rfl
    · rintro x bs rfl
      exact hno x bs (hhost ⟨nofun, nofun⟩)

/-! ## Interrupt bits (R361) -/

/-- No pending interrupt bit is cleared. -/
def KeepsIrq (s t : State) : Prop := ∀ i, s.irqStatus.getLsbD i = true → t.irqStatus.getLsbD i = true

theorem carried_keepsIrq : Carried KeepsIrq := ⟨fun _ _ h => h, fun _ _ _ h1 h2 i h => h2 i (h1 i h)⟩

theorem keepsIrq_of_eq {s t : State} (h : t.irqStatus = s.irqStatus) : KeepsIrq s t := fun _ hi => h ▸ hi

theorem keepsIrq_raiseIrq (s : State) (b : Nat) : KeepsIrq s (s.raiseIrq b) := by
  intro i hi
  rw [raiseIrq_irqStatus, BitVec.getLsbD_or, hi, Bool.true_or]

theorem keepsIrq_of_or {s t : State} {m : Word} (h : t.irqStatus = s.irqStatus ||| m) : KeepsIrq s t := by
  intro i hi
  rw [h, BitVec.getLsbD_or, hi, Bool.true_or]

theorem agentUpdates_keepsIrq : AgentUpdates KeepsIrq where
  toCarried := carried_keepsIrq
  chan _ _ _ := keepsIrq_of_eq rfl
  bytes _ _ _ := keepsIrq_of_eq (wrBytes_irqStatus ..)
  dcSum _ _ := keepsIrq_of_eq rfl
  dcCount _ _ := keepsIrq_of_eq rfl
  window _ _ := keepsIrq_of_eq rfl
  bmpWord _ _ := keepsIrq_of_eq rfl
  bmpCursor _ _ := keepsIrq_of_eq rfl
  frameScr _ _ := keepsIrq_of_eq rfl
  noRaw _ := keepsIrq_of_eq rfl
  noObjs _ := keepsIrq_of_eq rfl
  addRaw s r d p := by unfold State.addRaw; split <;> exact keepsIrq_of_eq rfl
  addObj s o := by unfold State.addObj; split <;> exact keepsIrq_of_eq rfl
  setObj _ _ _ := keepsIrq_of_eq rfl
  outDesc _ _ := keepsIrq_of_eq rfl
  publish _ _ _ := keepsIrq_of_or rfl
  drop _ := keepsIrq_of_or rfl
  res0 _ _ := keepsIrq_of_eq rfl
  res1 _ _ := keepsIrq_of_eq rfl
  place _ _ := keepsIrq_of_eq rfl
  irq := keepsIrq_raiseIrq
  agentBytes _ _ _ _ := keepsIrq_of_eq (wrBytes_irqStatus ..)
  races _ _ := keepsIrq_of_eq rfl
  readData _ _ := keepsIrq_of_eq rfl
  portData _ _ := keepsIrq_of_eq rfl
  past _ _ := keepsIrq_of_eq rfl
  chirp _ := keepsIrq_of_eq rfl
  counting _ _ := keepsIrq_of_eq rfl

/-- No step but reset and the host's write of `IRQ_STATUS` clears a bit. -/
theorem keepsIrq_step {s t : State} (hs : step s = .next t) (hreset : s.agenda.head? ≠ some .reset)
    (hclear : ∀ w, s.agenda.head? ≠ some (.regWrite 0x030 w)) : KeepsIrq s t := by
  refine agentUpdates_keepsIrq.step_of_fatal (fun _ _ => keepsIrq_of_or rfl) hs hreset (fun _ i _ _ _ => ?_) (fun q _ => ?_)
    fun off w u hw => ?_
  · exact agentUpdates_keepsIrq.bodyOf (fun _ => ⟨fun _ => keepsIrq_of_eq rfl, fun _ => keepsIrq_of_eq rfl⟩)
      (fun _ => ⟨fun _ => keepsIrq_of_eq rfl, fun _ => keepsIrq_of_eq rfl⟩)
      (fun _ => ⟨fun _ => keepsIrq_of_eq rfl, fun _ => keepsIrq_of_eq rfl⟩)
      (fun table _ _ _ _ _ _ => by cases table <;> exact keepsIrq_of_eq rfl) (fun _ _ => keepsIrq_of_eq rfl)
      (fun _ _ => keepsIrq_of_eq rfl)
  · exact agentUpdates_keepsIrq.runPos (fun _ _ _ => keepsIrq_of_eq rfl) (fun _ => keepsIrq_of_eq rfl)
      (fun s => keepsIrq_of_eq (show s.moduloChain.1.irqStatus = s.irqStatus by rw [moduloChain_frame s]))
      (fun _ => keepsIrq_of_eq rfl) (fun _ => keepsIrq_of_eq rfl) (fun _ => keepsIrq_of_eq rfl)
  · rcases writeReg_cases u off w with ⟨v, heq⟩ | ⟨v, past, heq⟩ | ⟨hoff, -⟩ | heq | ⟨v, heq⟩ | ⟨c, heq⟩
    case inr.inr.inl => exact absurd (hoff ▸ hw) (hclear w)
    all_goals
      rw [heq]
      exact keepsIrq_of_eq rfl

/-- Settles O59: the host's write clears what it names, the output is the or, and no other step clears a bit. -/
theorem interruptBitsAreClearedByTheHost : Obligations.InterruptBitsAreClearedByTheHost := by
  refine ⟨fun s w => ?_, fun s => ?_, fun s t hs hreset hclear => ?_⟩
  · change Host.Outcome.next (s.busWrite 0x030 w) = _
    split
    · next hm => rw [busWrite_halted hm]
    · next hm => rw [busWrite_eq_writeReg (by decide) (by decide) hm]; rfl
  · simp [State.irq]
  · have hkeep := keepsIrq_step hs hreset hclear
    refine BitVec.eq_of_getLsbD_eq fun i hi => ?_
    rw [BitVec.getLsbD_and, BitVec.getLsbD_not]
    cases hbit : s.irqStatus.getLsbD i
    · simp
    · simp [hkeep i hbit]

/-! ## The legal configuration and its counters (R35, R43) -/

/-- What a configured block keeps (R35, R43). -/
def LegalRun (x : Setup) : Prop :=
  LegalConfig x.act x.spaces ∧ x.numVirtAnt.toNat = x.act.numRx.toNat * x.act.numTx.toNat
    ∧ x.chirpsPerFrame.toNat = x.act.numDop.toNat * x.act.numTx.toNat
    ∧ x.txAntCount.toNat < x.act.numTx.toNat ∧ x.dopBinCount.toNat < x.act.numDop.toNat
    ∧ x.chirpCount.toNat = x.dopBinCount.toNat * x.act.numTx.toNat + x.txAntCount.toNat

/-- The block has a configuration (R131). -/
def Configured (m : Mode) : Prop := m = .configured ∨ m = .running

theorem runInv_iff (s : State) : RunInv s ↔ ControlInv s ∧ (Configured s.mode → LegalRun (setup s)) := Iff.rfl

/-- Within a configuration: the block stays configured, legally. -/
def KeepsRun (s t : State) : Prop := Configured s.mode ∧ LegalRun (setup s) → Configured t.mode ∧ LegalRun (setup t)

theorem agentUpdates_keepsRun : AgentUpdates KeepsRun :=
  agentUpdates_setup.mono ⟨fun _ h => h, fun _ _ _ h1 h2 h => h2 (h1 h)⟩ fun s t hsame hs => by
    have hmode : t.mode = s.mode := congrArg Setup.mode hsame
    rw [hmode, show setup t = setup s from hsame]
    exact hs

/-- Another mode of a configured block keeps the rest. -/
theorem keepsRun_of_mode {s t : State} {m : Mode} (hm : Configured m) (ht : setup t = { setup s with mode := m }) :
    KeepsRun s t := by
  rintro ⟨-, hlegal⟩
  have hmode : t.mode = m := congrArg Setup.mode ht
  rw [hmode, ht]
  exact ⟨hm, hlegal⟩

/-- The counters at zero count the first chirp. -/
theorem legalRun_zero {x : Setup} (h : LegalConfig x.act x.spaces)
    (hant : x.numVirtAnt.toNat = x.act.numRx.toNat * x.act.numTx.toNat)
    (hchirps : x.chirpsPerFrame.toNat = x.act.numDop.toNat * x.act.numTx.toNat) :
    LegalRun { x with chirpCount := 0, txAntCount := 0, dopBinCount := 0 } := by
  obtain ⟨htx, -⟩ : CheckHolds x.act 2 := h.1 2 (by decide)
  obtain ⟨-, hnd, -⟩ : CheckHolds x.act 5 := h.1 5 (by decide)
  refine ⟨h, hant, hchirps, ?_, ?_, ?_⟩
  · exact htx
  · change 0 < x.act.numDop.toNat
    omega
  · simp

theorem keepsRun_beginRun (s : State) : KeepsRun s s.beginRun := fun ⟨hm, hlegal, hant, hchirps, _⟩ =>
  ⟨hm, legalRun_zero hlegal hant hchirps⟩

/-- The modulo chain goes from one decomposed index to the next (R236). -/
theorem keepsRun_moduloChain (s : State) :
    KeepsRun s { s.moduloChain.1 with chirpScr := { s.chirpScr with last := s.moduloChain.2 } } := by
  rintro ⟨hm, hlegal, hant, hchirps, htx, hdop, hcount⟩
  have hgeo : LegalGeometry s.act := fun n hn => hlegal.1 n (by omega)
  have hdec : Decomposed s := ⟨htx, hdop, hcount⟩
  have hcounted (c : Nat) (hc : c < s.ncf) : Configured (atChirp s c).mode ∧ LegalRun (setup (atChirp s c)) := by
    have htx' := toNat_atChirp_txAntCount (c := c) hgeo
    have hdop' := toNat_atChirp_dopBinCount hgeo hc
    have hcount' := toNat_atChirp_chirpCount hgeo hc
    refine ⟨hm, hlegal, hant, hchirps, ?_, ?_, ?_⟩
    · exact htx'.trans_lt (Nat.mod_lt c (ntx_bounds hgeo).1)
    · exact hdop'.trans_lt (Nat.div_lt_of_lt_mul (by rwa [Nat.mul_comm]))
    · calc (atChirp s c).chirpCount.toNat = c := hcount'
        _ = c / s.ntx * s.ntx + c % s.ntx := (Nat.div_add_mod' c s.ntx).symm
        _ = _ := by rw [← hdop', ← htx']; rfl
  have hnext : Configured s.moduloChain.1.mode ∧ LegalRun (setup s.moduloChain.1) := by
    have hlt := hdec.chirp_lt
    rw [← hdec.atChirp_self]
    by_cases hc : s.chirpCount.toNat + 1 < s.ncf
    · rw [moduloChain_of_lt hgeo hc]
      exact hcounted _ hc
    · rw [moduloChain_of_last hgeo (show s.chirpCount.toNat + 1 = s.ncf by omega)]
      exact hcounted 0 (by omega)
  exact hnext

theorem keepsRun_runPos (q : Pos) : Carries KeepsRun (runPos q) :=
  agentUpdates_keepsRun.runPos (fun _ _ _ => keepsRun_of_mode (.inl rfl) rfl) (fun _ h => h) keepsRun_moduloChain (fun _ h => h)
    (fun _ h => h) (fun _ h => h)

theorem exists_busy_or_idle (s : State) : (∃ p, p < 12 ∧ (s.chan p).xfer.isBusy = true
    ∧ ∀ q, q < p → (s.chan q).xfer.isBusy = false) ∨ ∀ p, p < 12 → (s.chan p).xfer.isBusy = false := by
  cases h : s.leastChan (fun c => c.xfer.isBusy) (List.range 12) with
  | none => exact .inr fun p hp => by simpa using List.find?_eq_none.mp h p (List.mem_range.mpr hp)
  | some p =>
    rw [State.leastChan, List.find?_range_eq_some] at h
    obtain ⟨hbusy, hp, hleast⟩ := h
    exact .inl ⟨p, List.mem_range.mp hp, hbusy, fun q hq => by simpa using hleast q hq⟩

theorem cfgCommitBody_cases (s : State) :
    (∃ f, cfgCommitBody s = .error f s)
      ∨ cfgCommitBody s = .ok () { (s.latch.program (List.range 11)).setChan 11 Chan.zero with mode := .configured }
        ∧ firstFailure s.stg.checks = none ∧ firstFailure (s.stg.layoutChecks s.spaces) = none := by
  rcases exists_busy_or_idle s with ⟨p, hp, hbusy, hleast⟩ | hidle
  · exact .inl ⟨_, cfgCommitBody_busy hp hbusy hleast⟩
  · cases hchecks : firstFailure s.stg.checks with
    | some f => exact .inl ⟨f, cfgCommitBody_check hidle hchecks⟩
    | none =>
      cases hlayout : firstFailure (s.stg.layoutChecks s.spaces) with
      | some f => exact .inl ⟨f, cfgCommitBody_layout hidle hchecks hlayout⟩
      | none => exact .inr ⟨cfgCommitBody_legal hidle hchecks hlayout, rfl, rfl⟩

/-- A list of checks that finds nothing has none that fails. -/
theorem of_firstFailure_eq_none {l : List (Bool × Fatal)} (h : firstFailure l = none) : ∀ x ∈ l, x.1 = true := by
  induction l with
  | nil => nofun
  | cons x l ih =>
    cases hx : x.1
    · simp [firstFailure, hx] at h
    · exact List.forall_mem_cons.mpr ⟨hx, ih (by simpa [firstFailure, hx] using h)⟩

/-- A configuration that no check refuses is legal (R133, R89 to R91, R95). -/
theorem legalConfig_of_none {c : Cfg} {sp : Spaces} (hchecks : firstFailure c.checks = none)
    (hlayout : firstFailure (c.layoutChecks sp) = none) : LegalConfig c sp := by
  constructor
  · intro n
    induction n using Nat.strong_induction_on with
    | _ n ih =>
      intro hn
      rcases Nat.eq_zero_or_pos n with rfl | hpos
      · trivial
      · obtain ⟨k, rfl⟩ := Nat.exists_eq_add_of_le' hpos
        have hk : k < 11 := by omega
        exact (checks_iff hk fun m hm => ih m hm (by omega)).mp (of_firstFailure_eq_none hchecks _ (List.getElem_mem hk))
  · have hall := of_firstFailure_eq_none hlayout
    simp only [Cfg.layoutChecks, List.mem_append, List.mem_map, List.mem_range, List.mem_singleton] at hall
    refine ⟨fun k hk => ⟨?_, ?_⟩, fun j hj => ?_, ?_⟩
    · exact (alignedOk_iff c k).mp (hall _ (.inl (.inl (.inl ⟨k, hk, rfl⟩))))
    · exact (fits_iff c sp hk).mp (hall _ (.inl (.inl (.inr ⟨k, hk, rfl⟩))))
    · exact (pairs_iff c hj).mp (hall _ (.inl (.inr ⟨j, hj, rfl⟩)))
    · exact of_decide_eq_true (hall _ (.inr rfl))

/-- CFG.COMMIT leaves a legal configuration with the counters at zero, or raises (R132, R134). -/
theorem legalRun_latch {s : State} (h : LegalConfig s.stg s.spaces) :
    LegalRun (setup { (s.latch.program (List.range 11)).setChan 11 Chan.zero with mode := .configured }) := by
  rw [program_range s.latch mem_range_eleven]
  obtain ⟨hrx, hrx'⟩ : CheckHolds s.stg 1 := h.1 1 (by decide)
  obtain ⟨htx, htx'⟩ : CheckHolds s.stg 2 := h.1 2 (by decide)
  obtain ⟨-, hnd, hnd'⟩ : CheckHolds s.stg 5 := h.1 5 (by decide)
  have hant : s.stg.numRx.toNat * s.stg.numTx.toNat ≤ 4 * 2 := Nat.mul_le_mul hrx' htx'
  have hchirps : s.stg.numDop.toNat * s.stg.numTx.toNat ≤ 1024 * 2 := Nat.mul_le_mul hnd' htx'
  exact legalRun_zero (x := setup { s.latch with mode := .configured }) h (toNat_ofNat_of_lt (by omega))
    (toNat_ofNat_of_lt (by omega))

theorem keepsRun_cfgCommit : Carries KeepsRun (bodyOf .cfgCommit) := by
  refine carries_thenDone agentUpdates_keepsRun.toCarried fun s => ?_
  rcases cfgCommitBody_cases s with ⟨f, heq⟩ | ⟨heq, hchecks, hlayout⟩ <;> rw [heq]
  · exact id
  · exact fun _ => ⟨.inl rfl, legalRun_latch (legalConfig_of_none hchecks hlayout)⟩

theorem keepsRun_bodyOf (i : Instr) : Carries KeepsRun (bodyOf i) := by
  by_cases hi : i = .cfgCommit
  · rw [hi]
    exact keepsRun_cfgCommit
  · exact agentUpdates_keepsRun.bodyOf (fun h => absurd h hi)
      (fun _ => ⟨keepsRun_beginRun, fun _ => keepsRun_of_mode (.inr rfl) rfl⟩)
      (fun _ => ⟨fun _ => keepsRun_of_mode (.inl rfl) rfl, fun _ h => h⟩)
      (fun table _ _ _ _ _ _ => by cases table <;> exact fun h => h) (fun _ _ h => h) (fun _ _ h => h)

/-- Out of a configuration: a block that is configured is so legally. -/
def EntersLegally (s t : State) : Prop := (Configured s.mode → LegalRun (setup s)) → Configured t.mode → LegalRun (setup t)

theorem agentUpdates_entersLegally : AgentUpdates EntersLegally :=
  agentUpdates_setup.mono ⟨fun _ h => h, fun _ _ _ h1 h2 h => h2 (h1 h)⟩ fun s t hsame hs => by
    have hmode : t.mode = s.mode := congrArg Setup.mode hsame
    rw [hmode, show setup t = setup s from hsame]
    exact hs

/-- The commands of an unconfigured block: NOP, CFG.COMMIT and WIN.GEN (R131). -/
theorem entersLegally_bodyOf {i : Instr} {m : Mode} (hadm : admitted i m = true) (hm : ¬ Configured m) :
    Carries EntersLegally (bodyOf i) := by
  cases i with
  | cfgCommit =>
    refine carries_thenDone agentUpdates_entersLegally.toCarried fun s => ?_
    rcases cfgCommitBody_cases s with ⟨f, heq⟩ | ⟨heq, hchecks, hlayout⟩ <;> rw [heq]
    · exact id
    · exact fun _ _ => legalRun_latch (legalConfig_of_none hchecks hlayout)
  | runStart | runStop => exact absurd (by revert hadm; cases m <;> simp [admitted, Configured]) hm
  | _ =>
    exact agentUpdates_entersLegally.bodyOf nofun nofun nofun (fun table _ _ _ _ _ _ => by cases table <;> exact fun h => h)
      (fun _ _ h => h) (fun _ _ h => h)

/-- Settles O13: within a configuration every update keeps it legal; into one only CFG.COMMIT leads. -/
theorem stepKeepsRunInv : Obligations.StepKeepsRunInv := by
  intro s t hinv hs
  rw [runInv_iff] at hinv ⊢
  obtain ⟨hcontrol, hlegal⟩ := hinv
  refine ⟨stepKeepsControlInv s t hcontrol hs, fun hm => ?_⟩
  by_cases hreset : s.agenda.head? = some .reset
  · exact absurd hm (by simp [reset_mode hs hreset, Configured])
  · by_cases hconf : Configured s.mode
    · rcases agentUpdates_keepsRun.step hs hreset (fun _ i _ _ _ => keepsRun_bodyOf i) (fun q _ => keepsRun_runPos q)
        (fun off w u _ h => by
          have hsame := setup_writeReg u off w
          have hmode : (u.writeReg off w).mode = u.mode := congrArg Setup.mode hsame
          rw [hmode, hsame]
          exact h) with hR | ⟨u, f, -, rfl⟩
      · exact (hR ⟨hconf, hlegal hconf⟩).2
      · exact absurd hm (by simp [Configured])
    · have hpos (q : Pos) (hseq : s.seq = .pos q) : Carries EntersLegally (runPos q) := by
        refine absurd ?_ hconf
        have hpos := hcontrol.2.2.1 q hseq
        cases q with
        | complete | angle i => exact .inl hpos
        | stop p => exact .inr hpos
        | chirp q b => exact .inr hpos.1
        | frame q b => exact hpos.1.symm
      rcases agentUpdates_entersLegally.step hs hreset (fun _ i _ _ hadm => entersLegally_bodyOf hadm hconf) hpos
        (fun off w u _ h => by
          have hsame := setup_writeReg u off w
          have hmode : (u.writeReg off w).mode = u.mode := congrArg Setup.mode hsame
          rw [hmode, hsame]
          exact h) with hR | ⟨u, f, -, rfl⟩
      · exact hR hlegal hm
      · exact absurd hm (by simp [Configured])

/-- Settles O14: after reset the tables are empty and the block is unconfigured and idle. -/
theorem invariantsHoldAtReset : Obligations.InvariantsHoldAtReset := by
  refine ⟨⟨rfl, rfl, rfl, by decide, by decide, by decide⟩, (runInv_iff _).mpr ⟨?_, fun h => absurd h (by simp [Configured, State.reset])⟩⟩
  exact controlInv_of_running nofun nofun rfl nofun nofun

end Sys2Proof.Proofs.Agents
end

section
/-! SUPPORT. The command port (R26, R28, R112, R130), the Fatal (R352), `STATUS` (R30) and the four channel commands (R205, R208,
R209). -/

namespace Sys2Proof.Proofs.CommandPort

open Sys2Proof.Machine Sys2Proof.Claim Sys2Proof.Proofs.Nop Sys2Proof.Proofs.Dma Sys2Proof.Proofs.Steps Sys2Proof.Proofs.Control

set_option Elab.async false

/-! ## The step and the port -/

theorem step_of_agenda {s : State} {a : Action} {rest : List Action} (h : s.agenda = a :: rest) :
    step s = act a (counted s rest) := by
  rw [step, h]
  rfl

/-- The sequencer runs the command it holds. -/
theorem seqStep_of_cmd {s : State} {w : Word} {i : Instr} (hseq : s.seq = .cmd w) (hdec : decode w = .ok i) :
    seqStep s = exec i s := by
  rw [seqStep, hseq]
  dsimp only
  rw [hdec]

/-- A word that is no command is `CMD_ILLEGAL` (R112, R117). -/
theorem seqStep_of_illegal {s : State} {w : Word} {e : DecodeError} (hseq : s.seq = .cmd w) (hdec : decode w = .error e) :
    seqStep s = .next (faulted s 0x40 (w.toNat / 2 ^ 8)) := by
  rw [seqStep, hseq]
  dsimp only
  rw [hdec, fatal_eq_faulted]
  rfl

/-- Settles O4: the step is the sequencer's, and the sequencer's is the command. -/
theorem stepRunsTheDecodedCommand : Obligations.StepRunsTheDecodedCommand := by
  intro s w i hdec
  constructor
  · intro rest hagenda hseq
    rw [step_of_agenda hagenda]
    exact seqStep_of_cmd (s := counted s rest) hseq hdec
  · have hword : BitVec.ofNat 32 (w.toNat % 2 ^ 32) = w := by
      rw [Nat.mod_eq_of_lt w.isLt, BitVec.ofNat_toNat, BitVec.setWidth_eq]
    rw [State.withFetchWord, hword, step_of_agenda rfl]
    exact seqStep_of_cmd (s := { s with seq := .cmd w, tick := s.tick + 1 }) rfl hdec

/-- A write of `CMD` outside `HALTED` (R28). -/
theorem act_cmd {s : State} (hm : s.mode ≠ .halted) (w : Word) : act (.regWrite 0x00C w) s = .next (s.acceptCmd w) := by
  change Host.Outcome.next (s.busWrite 0x00C w) = _
  rw [State.busWrite, if_neg (not_or.mpr ⟨by decide, hm⟩), if_pos rfl]

/-- The record of an operand's earlier values with the value it holds (R26, U7). -/
theorem operand_mem (s : State) (i : Nat) : s.operand i ∈ tabGet s.arg i 0 :: tabGet s.argPast i [] := by
  cases h : tabGet s.argPast i [] with
  | nil => simp [State.operand, h]
  | cons x old =>
    have hlt : Config.argChoice s.tick i % ((x :: old).length + 1) < (tabGet s.arg i 0 :: x :: old).length :=
      Nat.mod_lt _ (Nat.succ_pos _)
    rw [State.operand, h]
    dsimp only
    rw [listGet, List.getD_eq_getElem _ _ hlt]
    exact List.getElem_mem hlt

theorem operand_of_unwritten {s : State} {i : Nat} (h : tabGet s.argPast i [] = []) : s.operand i = tabGet s.arg i 0 := by
  rw [State.operand, h]

/-- Settles O5: the four ways a write of `CMD` is answered, and the operands a command finds. -/
theorem commandPortAndOperands : Obligations.CommandPortAndOperands := by
  intro s w
  refine ⟨fun hm hbusy => ⟨?_, fun i => seqStep_of_cmd rfl, fun e => seqStep_of_illegal rfl⟩, fun hm hbusy => ?_, fun hm => ?_,
    rfl, fun i hi hm => ?_, fun i => ⟨operand_of_unwritten, operand_mem s i⟩⟩
  · rw [act_cmd hm, State.acceptCmd, if_neg hm, if_neg (by simp [hbusy])]
  · rw [act_cmd hm, State.acceptCmd, if_neg hm, if_pos hbusy, fatal_eq_faulted]
    rfl
  · change Host.Outcome.next (s.busWrite 0x00C w) = _
    rw [busWrite_halted hm]
  · change Host.Outcome.next (s.busWrite (0x010 + 4 * i) w) = _
    have hindex : (0x010 + 4 * i - 0x010) / 4 = i := by omega
    rw [busWrite_eq_writeReg (by omega) (by omega) hm, State.writeReg, if_neg (by omega), if_pos (by omega), hindex]
    rfl

/-- The table of R131, mode by mode. -/
theorem admitted_eq (i : Instr) (m : Mode) : admitted i m = decide (i.opcode ∈ modeTable m) := by
  cases m <;> cases i <;> rfl

/-- Settles O6: an illegal word, and a command its mode's row does not list. -/
theorem refusedCommandsHalt : Obligations.RefusedCommandsHalt := by
  refine ⟨fun s w e => seqStep_of_illegal, fun i s hnot => ?_⟩
  rw [exec_eq, command_refused (by rw [admitted_eq]; exact decide_eq_false hnot), fatal_eq_faulted]
  rfl

/-! ## The Fatal and STATUS -/

/-- Settles O8: the Fatal's four effects; `STATUS` bit by bit at every place of the sequencer. -/
theorem fatalEffects : Obligations.FatalEffects := by
  intro s f place modeBits seqBits tokens
  have hplace (q : Pos) : place q = 2 ^ 12 * q.seqState := by
    cases q <;> rfl
  have hmode : modeBits = s.mode.num := by
    simp only [modeBits]
    cases s.mode <;> rfl
  have hseq : seqBits = bitAt 4 s.seq.busy + bitAt 5 s.seq.waiting + 2 ^ 12 * s.seq.seqState := by
    simp only [seqBits, hplace]
    cases s.seq <;> rfl
  have htokens : tokens = bitAt 8 s.chirpToken + bitAt 9 s.frameToken := by
    simp only [tokens]
    cases s.chirpToken <;> cases s.frameToken <;> rfl
  refine ⟨fatal_eq_faulted s f, ?_, ?_, ?_⟩
  · refine congrArg (BitVec.ofNat 32) ?_
    change 3 + 0 + 0 + bitAt 8 s.chirpToken + bitAt 9 s.frameToken + 2 ^ 12 * 4 = _
    omega
  · refine congrArg (BitVec.ofNat 32) ?_
    omega
  · cases s.seq <;> simp [Seq.busy]

/-! ## The channel commands -/

section
variable {s : State} {p : Nat}

/-- Check 1 of R205 and R208. -/
theorem dmaCfgBody_noChannel (a b c d : Bool) (hp : 12 ≤ p) : dmaCfgBody p a b c d s = .error ⟨.dmaConfig, p⟩ s := by
  simp [dmaCfgBody, channelExists, hp.not_gt]

theorem dmaCfgBody_notIdle (a b c d : Bool) (hp : p < 12) (hx : (s.chan p).xfer ≠ .idle) :
    dmaCfgBody p a b c d s = .error ⟨.dmaProtocol, p⟩ s := by
  simp [dmaCfgBody, channelExists, hp, isIdle_eq_false hx]

theorem dmaCfgBody_empty (a b c d : Bool) (hp : p < 12) (hx : (s.chan p).xfer = .idle)
    (h : (s.operand 2).truncate 16 = (0 : Half) ∨ (s.operand 2 >>> 16).truncate 16 = (0 : Half)) :
    dmaCfgBody p a b c d s = .error ⟨.dmaConfig, 0x10 + p⟩ s := by
  have hinfo : 0x10 ||| p = 0x10 + p := check_or_channel hp 1
  have hempty : (((s.operand 2).truncate 16 : Half) != 0 && ((s.operand 2 >>> 16).truncate 16 : Half) != 0) = false := by
    rcases h with h | h <;> simp [h]
  have hidle : (s.chan p).xfer.isIdle = true := by rw [hx]; rfl
  simp only [dmaCfgBody, seqr_bind, seqr_get, thenWith_ok, channelExists, seqr_require, decide_eq_true hp, hidle, hempty, hinfo,
    if_true, Bool.false_eq_true, if_false, thenWith_error]

theorem dmaRetrig_noChannel (a b : Nat) (hp : 12 ≤ p) : dmaRetrig p a b s = .error ⟨.dmaConfig, p⟩ s := by
  simp [dmaRetrig, channelExists, hp.not_gt]

theorem dmaRetrig_notConfigured (a b : Nat) (hp : p < 12) (hc : (s.chan p).configured = false) :
    dmaRetrig p a b s = .error ⟨.dmaConfig, 0x20 + p⟩ s := by
  have hinfo : 0x20 ||| p = 0x20 + p := check_or_channel hp 2
  simp [dmaRetrig, channelExists, hp, hc, hinfo]

theorem dmaRetrig_notIdle (a b : Nat) (hp : p < 12) (hc : (s.chan p).configured = true) (hx : (s.chan p).xfer ≠ .idle) :
    dmaRetrig p a b s = .error ⟨.dmaProtocol, p⟩ s := by
  simp [dmaRetrig, channelExists, hp, hc, isIdle_eq_false hx]

/-- Writing a channel twice is writing it once. -/
theorem setChan_setChan (s : State) (p : Nat) (c d : Chan) : (s.setChan p c).setChan p d = s.setChan p d := by
  simp [State.setChan, tabSet]

/-- A configured idle channel is rebound and started (R208). -/
theorem dmaRetrig_ok (a b : Nat) (hp : p < 12) (hc : (s.chan p).configured = true) (hx : (s.chan p).xfer = .idle) :
    dmaRetrig p a b s = .ok () (s.setChan p (restarted (s.chan p) (BitVec.ofNat 32 a) (BitVec.ofNat 32 b))) := by
  have hchan (c : Chan) : (s.setChan p c).chan p = c := by rw [chan_setChan s p p c hp, if_pos rfl]
  simp only [dmaRetrig, channelExists, seqr_bind, seqr_require, seqr_get, seqr_modify, thenWith_ok, hp, hc, hx, Xfer.isIdle,
    Config.numDmaPhys, decide_true, if_true]
  rw [dmaStart_ok p _ hp (by rw [hchan]) (by rw [hchan]) (by rw [hchan]) (by rw [hchan]), hchan, setChan_setChan]
  simp [restarted, hc]

end

theorem ofNat_toNat_word (w : Word) : BitVec.ofNat 32 w.toNat = w := by simp

/-- Settles O34: the three checks, then the registers. -/
theorem dmaCfgWritesTheDescriptor : Obligations.DmaCfgWritesTheDescriptor := by
  intro s p a b c d hm
  have hadm : admitted (.dmaCfg p a b c d) s.mode = true := by rw [hm]; rfl
  refine ⟨fun hp => exec_faulted rfl hadm (dmaCfgBody_noChannel a b c d hp),
    fun hp hx => exec_faulted rfl hadm (dmaCfgBody_notIdle a b c d hp hx),
    fun hp hx h => exec_faulted rfl hadm (dmaCfgBody_empty a b c d hp hx h), fun hp hx hsize hcount => exec_done rfl hadm ?_⟩
  have hidle : (s.chan p).xfer.isIdle = true := by rw [hx]; rfl
  simp only [dmaCfgBody, seqr_bind, seqr_get, seqr_modify, thenWith_ok, channelExists, seqr_require, decide_eq_true hp, hidle,
    bne_iff_ne.mpr hsize, bne_iff_ne.mpr hcount, if_true, Bool.and_true]

/-- Settles O36: the checks, then the channel rebound and started. -/
theorem dmaRetrigRebindsAndStarts : Obligations.DmaRetrigRebindsAndStarts := by
  intro s p hm
  have hadm : admitted (.dmaRetrig p) s.mode = true := by rw [hm]; rfl
  have hbody : dmaRetrigBody p s = dmaRetrig p (s.operand 0).toNat (s.operand 1).toNat s := rfl
  have hfault {f : Fatal} (h : dmaRetrig p (s.operand 0).toNat (s.operand 1).toNat s = .error f s) :
      exec (.dmaRetrig p) s = .next (faulted s f.code.num f.info) := exec_faulted rfl hadm (hbody.trans h)
  refine ⟨fun hp => hfault (dmaRetrig_noChannel _ _ hp), fun hp hc => hfault (dmaRetrig_notConfigured _ _ hp hc),
    fun hp hc hx => hfault (dmaRetrig_notIdle _ _ hp hc hx), fun hp hc hx => exec_done rfl hadm ?_⟩
  rw [hbody, dmaRetrig_ok _ _ hp hc hx, ofNat_toNat_word, ofNat_toNat_word]

/-- A wait moves on exactly when its channel has a completion (R209). -/
theorem seqStep_wait {s : State} {p : Nat} {q : Pos} (hseq : s.seq = .wait p q) :
    seqStep s = .next (if (s.chan p).xfer.isDone then { freed s p with seq := .pos q } else s) := by
  rw [seqStep, hseq]
  dsimp only
  cases (s.chan p).xfer.isDone <;> rfl

/-- Settles O37: the command, and the wait it leaves. -/
theorem dmaWaitConsumesTheCompletion : Obligations.DmaWaitConsumesTheCompletion := by
  intro s p
  have hexec (hm : s.mode = .configured) : exec (.dmaWait p) s = .next (settle (awaitThen p .complete (pure (.finish true))) s) := by
    rw [exec_eq, command_admitted (by rw [hm]; rfl)]
    rfl
  refine ⟨fun hm hp => ?_, fun hm hp hd => ?_, fun hm hp hd => ?_, fun hseq => ?_, fun q hseq => ⟨fun hd => ?_, fun hd => ?_⟩⟩
  · have hbody : awaitThen p .complete (pure (.finish true)) s = .error ⟨.dmaConfig, p⟩ s := by
      simp [awaitThen, channelExists, hp.not_gt]
    rw [hexec hm, settle, hbody]
    exact congrArg Host.Outcome.next (fatal_eq_faulted s _)
  · rw [hexec hm, settle, awaitThen_done p _ _ s hp hd]
    rfl
  · rw [hexec hm, settle, awaitThen_wait p _ _ s hp hd]
  · rw [seqStep, hseq]
    rfl
  · refine ⟨by rw [seqStep_wait hseq, hd]; rfl, ?_⟩
    rw [State.seqEnabled, hseq]
    exact hd
  · rw [seqStep_wait hseq, hd]
    rfl

end Sys2Proof.Proofs.CommandPort
end

section
/-! SUPPORT. The arithmetic primitives (R9), how numbers, complex values and bytes stand for one another (R83, R84), and the
spaces (R81, R82, R86). -/

namespace Sys2Proof.Proofs.Arithmetic

open Sys2Proof.Machine Sys2Proof.Claim Sys2Proof.Proofs.Carry

set_option Elab.async false

/-! ## Rounding and saturation -/

theorem rndShr_zero (v : Int) : rndShr v 0 = v := rfl

theorem rndShr_succ (v : Int) (k : Nat) : rndShr v (k + 1) = (v + 2 ^ k) / 2 ^ (k + 1) := rfl

/-- The model's rounding is the one the rules write (R9). -/
theorem rndShr_eq (v : Int) (k : Nat) : rndShr v k = roundShift v k := by
  cases k with
  | zero =>
    rw [rndShr_zero, roundShift]
    omega
  | succ k =>
    have hdouble : 2 * v + 2 ^ (k + 1) = 2 * (v + 2 ^ k) := by ring
    have hpow : (2 : Int) ^ (k + 1 + 1) = 2 * 2 ^ (k + 1) := by ring
    rw [rndShr_succ, roundShift, hdouble, hpow, Int.mul_ediv_mul_of_pos _ _ (by decide)]

theorem clamp_eq {lo hi : Int} (h : lo ≤ hi) (v : Int) : clamp lo hi v = max lo (min v hi) := by
  unfold clamp
  split
  · omega
  · split <;> omega

theorem sat16_eq (v : Int) : sat16 v = satTo 16 v := clamp_eq (by decide) v

theorem sat32_eq (v : Int) : sat32 v = satTo 32 v := clamp_eq (by decide) v

theorem satu16_eq (v : Int) : satu16 v = max 0 (min v 65535) := clamp_eq (by decide) v

theorem satTo_16_bounds (v : Int) : -32768 ≤ satTo 16 v ∧ satTo 16 v ≤ 32767 := by
  simp only [satTo]
  omega

theorem satTo_32_bounds (v : Int) : -2147483648 ≤ satTo 32 v ∧ satTo 32 v ≤ 2147483647 := by
  simp only [satTo]
  omega

/-! ## The square root -/

/-- The digits below bit `b` find the root where it is less than `2^b` above `r`. -/
theorem isqrtFrom_spec (b n r : Nat) (hlo : r * r ≤ n) (hhi : n < (r + 2 ^ b) * (r + 2 ^ b)) :
    isqrtFrom b n r * isqrtFrom b n r ≤ n ∧ n < (isqrtFrom b n r + 1) * (isqrtFrom b n r + 1) := by
  induction b generalizing r with
  | zero => exact ⟨hlo, hhi⟩
  | succ b ih =>
    rw [isqrtFrom]
    split
    · next h => exact ih _ h (by rwa [Nat.add_assoc, ← Nat.two_mul, ← Nat.pow_succ'])
    · next h => exact ih _ hlo (Nat.lt_of_not_le h)

theorem isqrt_spec (n : Nat) : isqrt n * isqrt n ≤ n ∧ n < (isqrt n + 1) * (isqrt n + 1) := by
  refine isqrtFrom_spec _ n 0 (Nat.zero_le n) ?_
  calc n < 2 ^ (Nat.log2 n + 1) := Nat.lt_log2_self
    _ ≤ 2 ^ ((Nat.log2 n / 2 + 1) + (Nat.log2 n / 2 + 1)) := Nat.pow_le_pow_right (by decide) (by omega)
    _ = (0 + 2 ^ (Nat.log2 n / 2 + 1)) * (0 + 2 ^ (Nat.log2 n / 2 + 1)) := by rw [Nat.zero_add, Nat.pow_add]

/-! ## Bits -/

theorem bitrev_lt (m i : Nat) : bitrev m i < 2 ^ m := by
  induction m generalizing i with
  | zero => exact Nat.one_pos
  | succ m ih =>
    have hrest := ih (i / 2)
    have hbit : i % 2 < 2 := Nat.mod_lt i (by decide)
    calc bitrev (m + 1) i < (i % 2 + 1) * 2 ^ m := by rw [bitrev, Nat.add_one_mul]; omega
      _ ≤ 2 * 2 ^ m := Nat.mul_le_mul_right _ hbit
      _ = 2 ^ (m + 1) := (Nat.pow_succ').symm

theorem testBit_bitrev {m b : Nat} (i : Nat) (hb : b < m) : (bitrev m i).testBit b = i.testBit (m - 1 - b) := by
  induction m generalizing i b with
  | zero => exact absurd hb (Nat.not_lt_zero b)
  | succ m ih =>
    rw [bitrev, Nat.mul_comm, Nat.testBit_two_pow_mul_add _ (bitrev_lt m (i / 2))]
    split
    · next hlt =>
      rw [ih _ hlt, Nat.testBit_div_two]
      congr 1
      omega
    · obtain rfl : b = m := by omega
      simp

theorem bitrev_bitrev {m i : Nat} (hi : i < 2 ^ m) : bitrev m (bitrev m i) = i := by
  refine Nat.eq_of_testBit_eq fun b => ?_
  rcases Nat.lt_or_ge b m with hb | hb
  · rw [testBit_bitrev _ hb, testBit_bitrev _ (by omega)]
    congr 1
    omega
  · have hpow : 2 ^ m ≤ 2 ^ b := Nat.pow_le_pow_right (by decide) hb
    rw [Nat.testBit_lt_two_pow ((bitrev_lt m _).trans_le hpow), Nat.testBit_lt_two_pow (hi.trans_le hpow)]

theorem popcount_eq_sum (n v : Nat) : popcount n v = ∑ b ∈ Finset.range n, (v / 2 ^ b) % 2 := by
  induction n with
  | zero => rfl
  | succ n ih =>
    have hstep : popcount (n + 1) v = popcount n v + if v.testBit n then 1 else 0 := by
      rw [popcount, List.range_succ, List.filter_append, List.length_append, ← popcount]
      cases h : v.testBit n <;> simp [h]
    rw [hstep, ih, Finset.sum_range_succ, Nat.testBit_eq_decide_div_mod_eq]
    congr 1
    rcases Nat.mod_two_eq_zero_or_one (v / 2 ^ n) with h | h <;> simp [h]

/-! ## Bytes and complex values -/

theorem listGet_leBytes {n k : Nat} (v : Nat) (hk : k < n) : listGet (leBytes n v) k 0 = BitVec.ofNat 8 (v / 256 ^ k) := by
  induction n generalizing k v with
  | zero => exact absurd hk (Nat.not_lt_zero k)
  | succ n ih =>
    cases k with
    | zero => simp [leBytes, listGet]
    | succ k =>
      have hrest := ih (v / 256) (Nat.lt_of_succ_lt_succ hk)
      rw [Nat.div_div_eq_div_mul, ← Nat.pow_succ'] at hrest
      exact hrest

/-- Sign extension gives the number of the word's range with the word's value modulo `2^n` (R8). -/
theorem sext_spec {n v : Nat} (hn : 1 ≤ n) (hv : v < 2 ^ n) :
    sext n v % 2 ^ n = (v : Int) ∧ -(2 ^ (n - 1)) ≤ sext n v ∧ sext n v < 2 ^ (n - 1) := by
  obtain ⟨m, rfl⟩ := Nat.exists_eq_add_of_le' hn
  have hpow : (2 : Nat) ^ (m + 1) = 2 * 2 ^ m := Nat.pow_succ'
  have hcast : ((2 ^ m : Nat) : Int) = 2 ^ m := by push_cast; rfl
  have hcast' : (2 : Int) ^ (m + 1) = 2 * 2 ^ m := by ring
  rw [Nat.add_sub_cancel, sext, Nat.add_sub_cancel, hcast']
  split
  · refine ⟨Int.emod_eq_of_lt (by omega) (by omega), by omega, by omega⟩
  · refine ⟨?_, by omega, by omega⟩
    rw [Int.sub_emod_right]
    exact Int.emod_eq_of_lt (by omega) (by omega)

theorem lowBits_eq (n : Nat) (v : Int) : (lowBits n v : Int) = v % 2 ^ n :=
  Int.toNat_of_nonneg (Int.emod_nonneg _ (by positivity))

theorem cxBits_eq (n : Nat) (z : Cx) : (cxBits n z : Int) = z.re % 2 ^ n + 2 ^ n * (z.im % 2 ^ n) := by
  rw [cxBits, Nat.cast_add, Nat.cast_mul, lowBits_eq, lowBits_eq]
  push_cast
  rfl

/-! ## Names and spaces -/

theorem length_rawList (s : State) : s.rawList.length = min s.numRawObj.toNat 200 := by
  simp [State.rawList]

theorem listGet_rawList {s : State} {j : Nat} (hj : j < s.rawList.length) :
    listGet s.rawList j default = tabGet s.rawObj j default := by
  have hcount : j < s.numRawObj.toNat := by
    rw [length_rawList] at hj
    omega
  rw [listGet, tabGet, State.rawList, List.getD_eq_getElem?_getD, List.getD_eq_getElem?_getD, List.getElem?_take_of_lt hcount]

theorem admits_iff (c : Spaces) (write : Bool) (a n : Nat) : c.admits write a n = true ↔
    tierOf a < 4 ∧ offsetOf a + n ≤ c.capacity (tierOf a) ∧ (write = true → tierOf a ≠ 3) := by
  cases write <;> simp [Spaces.admits, and_comm, and_left_comm]

theorem hostAdmits_iff (c : Spaces) (write : Bool) (a n : Nat) : c.hostAdmits write a n = true ↔
    tierOf a < 4 ∧ offsetOf a + n ≤ c.capacity (tierOf a) ∧ (write = false → tierOf a ≠ 3) := by
  cases write <;> simp [Spaces.hostAdmits, and_assoc]

/-- Settles O33: one lemma a primitive, the names by their definitions. -/
theorem primitivesAndNames : Obligations.PrimitivesAndNames := by
  refine ⟨rndShr_zero, fun v k => ⟨rndShr_succ v k, ?_⟩, fun v => ⟨sat16_eq v, sat32_eq v, satu16_eq v⟩, isqrt_spec,
    fun m i hi => ⟨bitrev_lt m i, bitrev_bitrev hi, fun b => testBit_bitrev i⟩, popcount_eq_sum, fun s => ?_,
    fun b bs => ⟨rfl, rfl⟩, fun n v => ⟨length_leBytes n v, fun k => listGet_leBytes v⟩, fun n v hn => ?_, cxBits_eq,
    fun c write a n => ⟨rfl, rfl, rfl, rfl, rfl, rfl, admits_iff c write a n, hostAdmits_iff c write a n⟩⟩
  · have hpos : (0 : Int) < 2 ^ (k + 1) := by positivity
    rw [rndShr_succ]
    exact ⟨Int.mul_ediv_self_le hpos.ne', Int.lt_mul_ediv_self_add hpos |>.trans_eq (by ring)⟩
  · exact ⟨rfl, rfl, rfl, rfl, rfl, rfl, rfl, fun _ => rfl, fun p q c hp => chan_setChan s p q c hp, fun _ => rfl, length_rawList s,
      fun _ => listGet_rawList⟩
  · have hre := sext_spec hn (Nat.mod_lt v (Nat.two_pow_pos n))
    have him := sext_spec hn (Nat.mod_lt (v / 2 ^ n) (Nat.two_pow_pos n))
    exact ⟨hre.1, him.1, hre.2.1, hre.2.2, him.2.1, him.2.2⟩

end Sys2Proof.Proofs.Arithmetic
end

section
/-! SUPPORT. The two engines (R173 to R175): a stage element by element, the stages one after the other, their range and number of
outputs (R183). -/

namespace Sys2Proof.Proofs.Engine

open Sys2Proof.Machine Sys2Proof.Claim Sys2Proof.Proofs.Arithmetic

set_option Elab.async false

/-- The engine of 32-bit words, or that of 16-bit words. -/
def engineOf (wide : Bool) : Engine := if wide then .k32 else .k16

section
variable (wide : Bool)

theorem engineTw_engineOf : engineTw (engineOf wide) = if wide then tw32 else tw16 := by
  cases wide <;> rfl

theorem engineFrac_engineOf : engineFrac (engineOf wide) = if wide then 31 else 15 := by
  cases wide <;> rfl

theorem engineSat_engineOf (v : Int) : engineSat (engineOf wide) v = satTo (if wide then 32 else 16) v := by
  cases wide
  · exact sat16_eq v
  · exact sat32_eq v

theorem stageShift_engineOf (k m : Nat) :
    stageShift (engineOf wide) k m = if wide = false ∧ k % 2 = 0 ∧ k < m then 1 else 0 := by
  cases wide <;> simp [stageShift, engineOf]

end

theorem cmul_eq (q : Nat) (v w : Cx) : cmul q v w = rounded q v w := by
  rw [cmul, rounded, rndShr_eq, rndShr_eq]

/-! ## One stage -/

/-- Element `i` after a stage, by the model's operations: its place in its group, its partner, its twiddle (R173). -/
def stageElem (e : Engine) (n half sh : Nat) (a : List Cx) (i : Nat) : Cx :=
  let span := 2 * half
  if i % span < half then
    bflyAdd e sh (listGet a i Cx.zero)
      (cmul (engineFrac e) (listGet a (i + half) Cx.zero) (engineTw e n (i % span * (n / span))))
  else
    bflySub e sh (listGet a (i - half) Cx.zero)
      (cmul (engineFrac e) (listGet a i Cx.zero) (engineTw e n ((i % span - half) * (n / span))))

theorem listGet_append_left {α : Type} {l r : List α} {i : Nat} {d : α} (h : i < l.length) :
    listGet (l ++ r) i d = listGet l i d := List.getD_append _ _ _ _ h

theorem listGet_append_right {α : Type} {l r : List α} {i : Nat} {d : α} (h : l.length ≤ i) :
    listGet (l ++ r) i d = listGet r (i - l.length) d := List.getD_append_right _ _ _ _ h

theorem listGet_drop {α : Type} (l : List α) (k i : Nat) (d : α) : listGet (l.drop k) i d = listGet l (k + i) d := by
  simp [listGet, List.getD_eq_getElem?_getD, List.getElem?_drop]

theorem listGet_take {α : Type} (l : List α) {k i : Nat} (d : α) (h : i < k) : listGet (l.take k) i d = listGet l i d := by
  simp [listGet, List.getD_eq_getElem?_getD, List.getElem?_take_of_lt h]

theorem listGet_zipWith {α β γ : Type} (f : α → β → γ) {l : List α} {r : List β} {i : Nat} (hl : i < l.length) (hr : i < r.length)
    (a : α) (b : β) (c : γ) : listGet (List.zipWith f l r) i c = f (listGet l i a) (listGet r i b) := by
  simp [listGet, hl, hr]

theorem listGet_range {n i : Nat} (h : i < n) : listGet (List.range n) i 0 = i := by
  simp [listGet, h]

theorem listGet_map_range {α : Type} (f : Nat → α) {n i : Nat} (h : i < n) (d : α) : listGet ((List.range n).map f) i d = f i := by
  simp [listGet, h]

/-- A list is its elements. -/
theorem eq_map_range {l : List Cx} {n : Nat} {f : Nat → Cx} (hlen : l.length = n) (h : ∀ i, i < n → listGet l i Cx.zero = f i) :
    l = (List.range n).map f := by
  refine List.ext_getElem (by simp [hlen]) fun i hi _ => ?_
  have helem := h i (hlen ▸ hi)
  rw [listGet, List.getD_eq_getElem _ _ hi] at helem
  simpa using helem

section
variable {e : Engine} {n half sh : Nat} {a : List Cx}

theorem length_fftGroup (ha : a.length = 2 * half) : (fftGroup e n half sh a).length = 2 * half := by
  simp only [fftGroup, List.length_append, List.length_zipWith, List.length_range, List.length_take, List.length_drop]
  omega

/-- The elements of one group. -/
theorem listGet_fftGroup (ha : a.length = 2 * half) {i : Nat} (hi : i < 2 * half) :
    listGet (fftGroup e n half sh a) i Cx.zero = stageElem e n half sh a i := by
  have htake : (a.take half).length = half := by rw [List.length_take]; omega
  have hdrop : (a.drop half).length = half := by rw [List.length_drop]; omega
  let t := List.zipWith (fun j x => cmul (engineFrac e) x (engineTw e n (j * (n / (2 * half))))) (List.range half) (a.drop half)
  have ht : t.length = half := by
    simp only [t, List.length_zipWith, List.length_range, hdrop, min_self]
  have helem (j : Nat) (hj : j < half) : listGet t j Cx.zero
      = cmul (engineFrac e) (listGet a (half + j) Cx.zero) (engineTw e n (j * (n / (2 * half)))) := by
    simp only [t]
    rw [listGet_zipWith _ (by simpa using hj) (by omega) 0 Cx.zero, listGet_range hj, listGet_drop]
  have hgroup : fftGroup e n half sh a
      = List.zipWith (bflyAdd e sh) (a.take half) t ++ List.zipWith (bflySub e sh) (a.take half) t := rfl
  have hupper : (List.zipWith (bflyAdd e sh) (a.take half) t).length = half := by
    rw [List.length_zipWith, htake, ht, min_self]
  rw [hgroup, stageElem, Nat.mod_eq_of_lt hi]
  split
  · next h =>
    rw [listGet_append_left (by omega), listGet_zipWith _ (by omega) (by omega) Cx.zero Cx.zero, listGet_take _ _ h, helem i h,
      Nat.add_comm half i]
  · next h =>
    have hlow : i - half < half := by omega
    rw [listGet_append_right (by omega), hupper, listGet_zipWith _ (by omega) (by omega) Cx.zero Cx.zero, listGet_take _ _ hlow,
      helem _ hlow, show half + (i - half) = i by omega]

/-- An element of a stage depends on its group alone. -/
theorem stageElem_congr {b : List Cx} {i j : Nat} (hmod : j % (2 * half) = i % (2 * half)) (hsame : ∀ k, listGet b (j + k) Cx.zero
    = listGet a (i + k) Cx.zero) (hback : half ≤ i % (2 * half) → listGet b (j - half) Cx.zero = listGet a (i - half) Cx.zero) :
    stageElem e n half sh b j = stageElem e n half sh a i := by
  have hself : listGet b j Cx.zero = listGet a i Cx.zero := hsame 0
  simp only [stageElem, hmod]
  split
  · rw [hself, hsame half]
  · next h => rw [hself, hback (Nat.le_of_not_lt h)]

theorem stageElem_take {k i : Nat} (hk : k = 2 * half) (hi : i < 2 * half) :
    stageElem e n half sh (a.take k) i = stageElem e n half sh a i := by
  subst hk
  simp only [stageElem, Nat.mod_eq_of_lt hi]
  split
  · next h => rw [listGet_take _ _ hi, listGet_take _ _ (by omega)]
  · rw [listGet_take _ _ (by omega), listGet_take _ _ hi]

theorem length_fftStage (g : Nat) (ha : a.length = g * (2 * half)) : (fftStage e n half sh g a).length = g * (2 * half) := by
  induction g generalizing a with
  | zero => simp [fftStage]
  | succ g ih =>
    rw [Nat.succ_mul] at ha
    rw [fftStage, List.length_append, length_fftGroup (by rw [List.length_take]; omega), ih (by rw [List.length_drop]; omega)]
    ring

/-- The elements of one stage (R173). -/
theorem listGet_fftStage (g : Nat) (ha : a.length = g * (2 * half)) {i : Nat} (hi : i < g * (2 * half)) :
    listGet (fftStage e n half sh g a) i Cx.zero = stageElem e n half sh a i := by
  induction g generalizing a i with
  | zero => simp at hi
  | succ g ih =>
    rw [Nat.succ_mul] at ha hi
    have htake : (a.take (2 * half)).length = 2 * half := by rw [List.length_take]; omega
    have hlen := length_fftGroup (e := e) (n := n) (sh := sh) htake
    rw [fftStage]
    rcases Nat.lt_or_ge i (2 * half) with hlt | hge
    · rw [listGet_append_left (by omega), listGet_fftGroup htake hlt, stageElem_take rfl hlt]
    · rw [listGet_append_right (by omega), hlen, ih (by rw [List.length_drop]; omega) (by omega)]
      have hmod : (i - 2 * half) % (2 * half) = i % (2 * half) := (Nat.mod_eq_sub_mod hge).symm
      refine stageElem_congr hmod (fun k => ?_) fun hhalf => ?_
      · rw [listGet_drop]
        congr 1
        omega
      · have hplace : half ≤ i - 2 * half := by
          rw [← hmod] at hhalf
          exact hhalf.trans (Nat.mod_le _ _)
        rw [listGet_drop]
        congr 1
        omega

end

/-- The model's stage element is the butterfly the rules write (R173). -/
theorem stageElem_eq_butterfly (wide : Bool) (m s : Nat) (a : List Cx) (i : Nat) :
    stageElem (engineOf wide) (2 ^ m) (2 ^ s) (stageShift (engineOf wide) (s + 1) m) a i = butterfly wide m (s + 1) a i := by
  have hspan : 2 * 2 ^ s = 2 ^ (s + 1) := Nat.pow_succ'.symm
  simp only [stageElem, butterfly, Nat.add_sub_cancel, hspan, bflyAdd, bflySub, cmul_eq, rndShr_eq, engineTw_engineOf,
    engineFrac_engineOf, engineSat_engineOf, stageShift_engineOf, decide_eq_true_eq]
  by_cases hlt : i % 2 ^ (s + 1) < 2 ^ s
  · simp only [hlt, if_true]
  · simp only [hlt, if_false]
    have hle : 2 ^ s ≤ i := (Nat.le_of_not_lt hlt).trans (Nat.mod_le _ _)
    have hmod : (i - 2 ^ s) % 2 ^ (s + 1) = i % 2 ^ (s + 1) - 2 ^ s := by
      have hbound : i % 2 ^ (s + 1) < 2 ^ (s + 1) := Nat.mod_lt _ (Nat.two_pow_pos _)
      have hsplit := Nat.mod_add_div i (2 ^ (s + 1))
      have hlow : i - 2 ^ s = (i % 2 ^ (s + 1) - 2 ^ s) + 2 ^ (s + 1) * (i / 2 ^ (s + 1)) := by omega
      rw [hlow, Nat.add_mul_mod_self_left, Nat.mod_eq_of_lt (by omega)]
    rw [hmod, show i - 2 ^ s + 2 ^ s = i by omega]

/-! ## The stages -/

/-- A stage of a transform of `2^m` points (R173). -/
theorem fftStage_eq {m s : Nat} (wide : Bool) (hs : s < m) {a : List Cx} (ha : a.length = 2 ^ m) :
    fftStage (engineOf wide) (2 ^ m) (2 ^ s) (stageShift (engineOf wide) (s + 1) m) (2 ^ m / 2 ^ (s + 1)) a
      = (List.range (2 ^ m)).map (butterfly wide m (s + 1) a) := by
  have hgroups : 2 ^ m / 2 ^ (s + 1) * (2 * 2 ^ s) = 2 ^ m := by
    rw [← Nat.pow_succ']
    exact Nat.div_mul_cancel (Nat.pow_dvd_pow 2 hs)
  refine eq_map_range ((length_fftStage _ (by rw [ha, hgroups])).trans hgroups) fun i hi => ?_
  rw [listGet_fftStage _ (by rw [ha, hgroups]) (by rwa [hgroups]), stageElem_eq_butterfly]

/-- The stages in order. -/
theorem fftStages_eq {m s : Nat} (wide : Bool) (k : Nat) (hk : s + k ≤ m) {a : List Cx} (ha : a.length = 2 ^ m) :
    fftStages (engineOf wide) m k s a
      = (List.range' s k).foldl (fun b j => (List.range (2 ^ m)).map (butterfly wide m (j + 1) b)) a := by
  induction k generalizing s a with
  | zero => rfl
  | succ k ih =>
    rw [fftStages, fftStage_eq wide (by omega) ha, ih (by omega) (by simp), List.range'_succ, List.foldl_cons]

/-- Both engines compute the transform of R173. -/
theorem fft_eq (wide : Bool) (m : Nat) (x : List Cx) : fft (engineOf wide) m x = transform wide m x := by
  rw [fft, fftStages_eq wide m (by omega) (by simp), transform, List.range_eq_range' (n := m)]

theorem fft16_eq (n : Nat) (x : List Cx) : fft16 n x = transform false (Nat.log2 n) x := fft_eq false _ x

theorem fft32_eq (n : Nat) (x : List Cx) : fft32 n x = transform true (Nat.log2 n) x := fft_eq true _ x

/-- The last stage of a transform. -/
theorem transform_succ (wide : Bool) (m : Nat) (x : List Cx) :
    ∃ a, transform wide (m + 1) x = (List.range (2 ^ (m + 1))).map (butterfly wide (m + 1) (m + 1) a) := by
  refine ⟨(List.range m).foldl (fun a k => (List.range (2 ^ (m + 1))).map (butterfly wide (m + 1) (k + 1) a))
    ((List.range (2 ^ (m + 1))).map fun i => listGet x (bitrev (m + 1) i) Cx.zero), ?_⟩
  rw [transform, List.range_succ (n := m), List.foldl_append, List.foldl_cons, List.foldl_nil]

theorem length_transform (wide : Bool) (m : Nat) (x : List Cx) : (transform wide m x).length = 2 ^ m := by
  cases m with
  | zero => rfl
  | succ m =>
    obtain ⟨a, ha⟩ := transform_succ wide m x
    rw [ha, List.length_map, List.length_range]

/-- The parts of a butterfly's output are saturated (R183). -/
theorem butterfly_saturated (wide : Bool) (m k : Nat) (a : List Cx) (i : Nat) :
    ∃ x y, butterfly wide m k a i = ⟨satTo (if wide then 32 else 16) x, satTo (if wide then 32 else 16) y⟩ := by
  unfold butterfly
  dsimp only
  split <;> exact ⟨_, _, rfl⟩

theorem transform_saturated (wide : Bool) {m : Nat} (hm : 1 ≤ m) (x : List Cx) {z : Cx} (hz : z ∈ transform wide m x) :
    ∃ v w, z = ⟨satTo (if wide then 32 else 16) v, satTo (if wide then 32 else 16) w⟩ := by
  obtain ⟨k, rfl⟩ := Nat.exists_eq_add_of_le' hm
  obtain ⟨a, ha⟩ := transform_succ wide k x
  rw [ha, List.mem_map] at hz
  obtain ⟨i, -, rfl⟩ := hz
  exact butterfly_saturated wide _ _ a i

theorem transform_narrow_bounds {m : Nat} (hm : 1 ≤ m) (x : List Cx) {z : Cx} (hz : z ∈ transform false m x) :
    -32768 ≤ z.re ∧ z.re ≤ 32767 ∧ -32768 ≤ z.im ∧ z.im ≤ 32767 := by
  obtain ⟨v, w, rfl⟩ := transform_saturated false hm x hz
  exact ⟨(satTo_16_bounds v).1, (satTo_16_bounds v).2, satTo_16_bounds w⟩

theorem transform_wide_bounds {m : Nat} (hm : 1 ≤ m) (x : List Cx) {z : Cx} (hz : z ∈ transform true m x) :
    -2147483648 ≤ z.re ∧ z.re ≤ 2147483647 ∧ -2147483648 ≤ z.im ∧ z.im ≤ 2147483647 := by
  obtain ⟨v, w, rfl⟩ := transform_saturated true hm x hz
  exact ⟨(satTo_32_bounds v).1, (satTo_32_bounds v).2, satTo_32_bounds w⟩

end Sys2Proof.Proofs.Engine
end

section
/-! SUPPORT. The twiddle ROM (R169 to R171): the symmetries of the folded cosine hold at every angle; how near the values are to the
circle and to the double-angle formulas is checked on one quarter of the finest table and carried round by the symmetries. -/

namespace Sys2Proof.Proofs.Roots

open Sys2Proof.Machine Sys2Proof.Claim Sys2Proof.Proofs.WindowIndex Sys2Proof.Proofs.Engine

set_option Elab.async false

/-! ## The cosine of a quarter turn -/

theorem fxOne_pos : 0 < fxOne := Nat.two_pow_pos 112

theorem cosSeries_le (t n j : Nat) : cosSeries t n j ≤ fxOne := by
  cases n with
  | zero => exact le_rfl
  | succ n => exact Nat.sub_le _ _

theorem sinSeries_le (t n j : Nat) : sinSeries t n j ≤ fxOne := by
  cases n with
  | zero => exact le_rfl
  | succ n => exact Nat.sub_le _ _

theorem cosQuarter_le (num den : Nat) : cosQuarter num den ≤ fxOne := by
  unfold cosQuarter
  split
  · exact Nat.div_le_self _ _
  split
  · exact cosSeries_le _ _ _
  · next heighth =>
    have hx : 2 * fxPi * (den - 4 * num) / (4 * den) ≤ fxOne := by
      have hpi : 2 * fxPi ≤ 8 * fxOne := by decide
      refine Nat.div_le_of_le_mul ?_
      calc 2 * fxPi * (den - 4 * num) ≤ 8 * fxOne * (den - 4 * num) := Nat.mul_le_mul_right _ hpi
        _ = 4 * fxOne * (2 * (den - 4 * num)) := by ring
        _ ≤ 4 * fxOne * den := Nat.mul_le_mul_left _ (by omega)
        _ = 4 * den * fxOne := by ring
    calc _ ≤ 2 * fxPi * (den - 4 * num) / (4 * den) * fxOne / fxOne :=
          Nat.div_le_div_right (Nat.mul_le_mul_left _ (sinSeries_le _ _ _))
      _ = 2 * fxPi * (den - 4 * num) / (4 * den) := Nat.mul_div_cancel _ fxOne_pos
      _ ≤ fxOne := hx

/-- The angle is a fraction: a common factor makes no difference. -/
theorem cosQuarter_scale {c : Nat} (hc : 0 < c) (num den : Nat) : cosQuarter (c * num) (c * den) = cosQuarter num den := by
  have hsixth : 6 * (c * num) = c * den ↔ 6 * num = den := by
    rw [Nat.mul_left_comm, Nat.mul_right_inj hc.ne']
  have heighth : 8 * (c * num) ≤ c * den ↔ 8 * num ≤ den := by
    rw [Nat.mul_left_comm, Nat.mul_le_mul_left_iff hc]
  have hcos : 2 * fxPi * (c * num) / (c * den) = 2 * fxPi * num / den := by
    rw [Nat.mul_left_comm, Nat.mul_div_mul_left _ _ hc]
  have hsin : 2 * fxPi * (c * den - 4 * (c * num)) / (4 * (c * den)) = 2 * fxPi * (den - 4 * num) / (4 * den) := by
    rw [Nat.mul_left_comm 4 c num, ← Nat.mul_sub, Nat.mul_left_comm _ c, Nat.mul_left_comm 4 c den, Nat.mul_div_mul_left _ _ hc]
  simp only [cosQuarter, hsixth, heighth, hcos, hsin]

theorem cosQuarter_zero {d : Nat} (hd : 0 < d) : cosQuarter 0 d = fxOne := by
  have hseries : cosSeries 0 15 0 = fxOne := by decide
  rw [cosQuarter, if_neg (by omega), if_pos (by omega)]
  simpa using hseries

/-- The cosine of a quarter turn is 0. -/
theorem cosQuarter_quarter {m : Nat} (hm : 0 < m) : cosQuarter m (4 * m) = 0 := by
  rw [cosQuarter, if_neg (by omega), if_neg (by omega)]
  simp

/-! ## The cosine of any angle -/

theorem turnDist_mod (k d : Nat) : turnDist (k % d) d = turnDist k d := by
  rw [turnDist, turnDist, Nat.mod_mod]

theorem cosTurn_mod (k d : Nat) : cosTurn (k % d) d = cosTurn k d := by
  rw [cosTurn_eq_of_turnDist, cosTurn_eq_of_turnDist, turnDist_mod]

theorem cosTurn_congr {j k d : Nat} (h : j % d = k % d) : cosTurn j d = cosTurn k d := by
  rw [← cosTurn_mod j, ← cosTurn_mod k, h]

theorem cosTurn_zero {d : Nat} (hd : 0 < d) : cosTurn 0 d = fxOne := by
  rw [cosTurn_eq_of_turnDist, show turnDist 0 d = 0 by simp [turnDist], if_pos (by omega), cosQuarter_zero hd]

theorem abs_cosTurn_le (k d : Nat) : |cosTurn k d| ≤ fxOne := by
  rw [cosTurn_eq_of_turnDist]
  split
  · rw [Nat.abs_cast]
    exact_mod_cast cosQuarter_le _ _
  · rw [abs_neg, Nat.abs_cast]
    exact_mod_cast cosQuarter_le _ _

theorem turnDist_scale {c : Nat} (hc : 0 < c) (k d : Nat) : turnDist (c * k) (c * d) = c * turnDist k d := by
  have hhalf : 2 * (c * (k % d)) ≤ c * d ↔ 2 * (k % d) ≤ d := by
    rw [Nat.mul_left_comm, Nat.mul_le_mul_left_iff hc]
  simp only [turnDist, Nat.mul_mod_mul_left, hhalf, ← Nat.mul_sub]
  split <;> rfl

/-- A common factor of the angle makes no difference. -/
theorem cosTurn_scale {c : Nat} (hc : 0 < c) (k d : Nat) : cosTurn (c * k) (c * d) = cosTurn k d := by
  have hquarter : 4 * (c * turnDist k d) ≤ c * d ↔ 4 * turnDist k d ≤ d := by
    rw [Nat.mul_left_comm, Nat.mul_le_mul_left_iff hc]
  have hrest : cosQuarter (c * d - 2 * (c * turnDist k d)) (2 * (c * d)) = cosQuarter (d - 2 * turnDist k d) (2 * d) := by
    rw [Nat.mul_left_comm 2 c, ← Nat.mul_sub, Nat.mul_left_comm 2 c d, cosQuarter_scale hc]
  simp only [cosTurn_eq_of_turnDist, turnDist_scale hc, hquarter, cosQuarter_scale hc, hrest]

/-- Half a turn further is half a turn less far. -/
theorem turnDist_add_half {m : Nat} (hm : 0 < m) (k : Nat) : turnDist (k + m) (2 * m) = m - turnDist k (2 * m) := by
  have hk : k % (2 * m) < 2 * m := Nat.mod_lt _ (by omega)
  have hsum : (k + m) % (2 * m) = if k % (2 * m) < m then k % (2 * m) + m else k % (2 * m) - m := by
    rw [Nat.add_mod, Nat.mod_eq_of_lt (show m < 2 * m by omega)]
    split
    · exact Nat.mod_eq_of_lt (by omega)
    · rw [Nat.mod_eq_sub_mod (by omega), Nat.mod_eq_of_lt (by omega)]
      omega
  simp only [turnDist, hsum]
  split <;> split <;> split <;> omega

theorem turnDist_le_half {m : Nat} (hm : 0 < m) (k : Nat) : turnDist k (2 * m) ≤ m := by
  have hk : k % (2 * m) < 2 * m := Nat.mod_lt _ (by omega)
  unfold turnDist
  split <;> omega

/-- Half a turn further the cosine is the opposite one. -/
theorem cosTurn_add_half {m : Nat} (hm : 0 < m) (k : Nat) : cosTurn (k + m) (2 * m) = -cosTurn k (2 * m) := by
  have hle := turnDist_le_half hm k
  rw [cosTurn_eq_of_turnDist, cosTurn_eq_of_turnDist, turnDist_add_half hm]
  generalize turnDist k (2 * m) = h at hle
  have hback : 2 * m - 2 * (m - h) = 2 * h := by omega
  have hfwd : 2 * m - 2 * h = 2 * (m - h) := by omega
  rw [hback, hfwd, cosQuarter_scale two_pos, cosQuarter_scale two_pos]
  rcases Nat.lt_trichotomy (2 * h) m with hlt | rfl | hgt
  · rw [if_neg (by omega), if_pos (by omega)]
  · have hzero : cosQuarter h (2 * (2 * h)) = 0 := by
      rw [← Nat.mul_assoc]
      exact cosQuarter_quarter (by omega)
    rw [if_pos (by omega), if_pos (by omega), show 2 * h - h = h by omega, hzero]
    rfl
  · rw [if_pos (by omega), if_neg (by omega), neg_neg]

/-- The first quarter of a turn has cosines that are not negative. -/
theorem cosTurn_nonneg {k d : Nat} (h : 4 * turnDist k d ≤ d) : 0 ≤ cosTurn k d := by
  rw [cosTurn_eq_of_turnDist, if_pos h]
  exact Int.natCast_nonneg _

/-! ## Rounding to the table's words (R169) -/

theorem rhaz_neg (x : Int) : rhaz (-x) = -rhaz x := by
  have hpos : (0 : Int) < fxOne := by exact_mod_cast fxOne_pos
  rcases lt_trichotomy x 0 with h | rfl | h
  · rw [rhaz, rhaz, if_pos (by omega), if_neg (by omega), neg_neg]
  · have hzero : rhaz 0 = 0 := by decide
    rw [neg_zero, hzero, neg_zero]
  · rw [rhaz, rhaz, if_neg (by omega), if_pos (by omega), neg_neg]

theorem rhaz_nonneg {x : Int} (hx : 0 ≤ x) : 0 ≤ rhaz x := by
  rw [rhaz, if_pos hx]
  exact Int.ediv_nonneg (by omega) (by omega)

theorem rhaz_mul_fxOne {a : Int} (ha : 0 ≤ a) : rhaz (a * fxOne) = a := by
  have hpos : (0 : Int) < fxOne := by exact_mod_cast fxOne_pos
  rw [rhaz, if_pos (by positivity), show 2 * (a * fxOne) + (fxOne : Int) = fxOne + 2 * fxOne * a by ring,
    Int.add_mul_ediv_left _ _ (by omega), Int.ediv_eq_zero_of_lt (by omega) (by omega), zero_add]

/-- A rounded number is at most half a unit from the exact one. -/
theorem rhaz_near (x : Int) : |2 * fxOne * rhaz x - 2 * x| ≤ fxOne := by
  have hpos : (0 : Int) < fxOne := by exact_mod_cast fxOne_pos
  have hbound (y : Int) (hy : 0 ≤ y) : |2 * fxOne * ((2 * y + fxOne) / (2 * fxOne)) - 2 * y| ≤ fxOne := by
    have hlo := Int.mul_ediv_self_le (x := 2 * y + fxOne) (k := 2 * fxOne) (by omega)
    have hhi := Int.lt_mul_ediv_self_add (x := 2 * y + fxOne) (k := 2 * fxOne) (by omega)
    rw [abs_le]
    omega
  rcases le_or_gt 0 x with h | h
  · rw [rhaz, if_pos h]
    exact hbound x h
  · have hneg := hbound (-x) (by omega)
    rw [rhaz, if_neg (by omega), ← abs_neg]
    calc _ = |2 * fxOne * ((2 * -x + fxOne) / (2 * fxOne)) - 2 * -x| := by congr 1; ring
      _ ≤ _ := hneg

/-! ## The twiddles -/

theorem cx_ext {z w : Cx} (hre : z.re = w.re) (him : z.im = w.im) : z = w := by
  cases z
  cases w
  simp_all

section
variable {A : Int} {n k : Nat}

theorem twiddle_re (A : Int) (n k : Nat) : (twiddle A n k).re = rhaz (A * cosTurn k n) := by
  simp only [twiddle, cosTurn_mod]

/-- The sine is the cosine a quarter turn back. -/
theorem twiddle_im (A : Int) (n k : Nat) : (twiddle A n k).im = rhaz (-(A * cosTurn (4 * k + 3 * n) (4 * n))) := by
  have hmod : (4 * (k % n) + 3 * n) % (4 * n) = (4 * k + 3 * n) % (4 * n) := by
    rw [← Nat.mul_mod_mul_left, Nat.mod_add_mod]
  simp only [twiddle, cosTurn_congr hmod]

theorem twiddle_mod (A : Int) (n k : Nat) : twiddle A n k = twiddle A n (k % n) := by
  simp only [twiddle, Nat.mod_mod]

/-- A common factor of index and size makes no difference. -/
theorem twiddle_scale {c : Nat} (hc : 0 < c) (A : Int) (n k : Nat) : twiddle A (c * n) (c * k) = twiddle A n k := by
  have hsin : cosTurn (4 * (c * k) + 3 * (c * n)) (4 * (c * n)) = cosTurn (4 * k + 3 * n) (4 * n) := by
    rw [← cosTurn_scale hc (4 * k + 3 * n) (4 * n)]
    congr 1 <;> ring
  refine cx_ext ?_ ?_
  · rw [twiddle_re, twiddle_re, cosTurn_scale hc]
  · rw [twiddle_im, twiddle_im, hsin]

/-- Half a turn further is the opposite value. -/
theorem twiddle_add_half {m : Nat} (hm : 0 < m) (A : Int) (k : Nat) :
    twiddle A (2 * m) (k + m) = ⟨-(twiddle A (2 * m) k).re, -(twiddle A (2 * m) k).im⟩ := by
  have hsin : cosTurn (4 * (k + m) + 3 * (2 * m)) (4 * (2 * m)) = -cosTurn (4 * k + 3 * (2 * m)) (4 * (2 * m)) := by
    rw [show 4 * (k + m) + 3 * (2 * m) = 4 * k + 3 * (2 * m) + 4 * m by ring, show 4 * (2 * m) = 2 * (4 * m) by ring]
    exact cosTurn_add_half (by omega) _
  refine cx_ext ?_ ?_
  · rw [twiddle_re, twiddle_re, cosTurn_add_half hm, mul_neg, rhaz_neg]
  · rw [twiddle_im, twiddle_im, hsin, mul_neg, rhaz_neg]

/-- The opposite angle is the conjugate value. -/
theorem twiddle_sub (hn : 0 < n) (hk : k ≤ n) (A : Int) :
    twiddle A n (n - k) = ⟨(twiddle A n k).re, -(twiddle A n k).im⟩ := by
  have hcos : cosTurn (n - k) n = cosTurn k n := cosTurn_eq_of_dvd hn ⟨1, by omega⟩
  have hsin : cosTurn (4 * (n - k) + 3 * n) (4 * n) = -cosTurn (4 * k + 3 * n) (4 * n) := by
    have hhalf := cosTurn_add_half (m := 2 * n) (by omega) (4 * k + 3 * n)
    rw [show 2 * (2 * n) = 4 * n by ring] at hhalf
    rw [← hhalf]
    exact cosTurn_eq_of_dvd (by omega) ⟨3, by omega⟩
  refine cx_ext ?_ ?_
  · rw [twiddle_re, twiddle_re, hcos]
  · rw [twiddle_im, twiddle_im, hsin, mul_neg, rhaz_neg]

theorem twiddle_zero (hA : 0 ≤ A) (hn : 0 < n) : twiddle A n 0 = ⟨A, 0⟩ := by
  have hsin : cosTurn (3 * n) (4 * n) = 0 := by
    have hdist : turnDist (3 * n) (4 * n) = n := by
      rw [turnDist, Nat.mod_eq_of_lt (by omega), if_neg (by omega)]
      omega
    rw [cosTurn_eq_of_turnDist, hdist, if_pos le_rfl, cosQuarter_quarter hn]
    rfl
  have hzero : rhaz 0 = 0 := by decide
  refine cx_ext ?_ ?_
  · rw [twiddle_re, cosTurn_zero hn, rhaz_mul_fxOne hA]
  · rw [twiddle_im, Nat.mul_zero, Nat.zero_add, hsin, mul_zero, neg_zero, hzero]

/-- A quarter turn on, the value is `-i` times the amplitude. -/
theorem twiddle_quarter {m : Nat} (hA : 0 ≤ A) (hm : 0 < m) : twiddle A (4 * m) m = ⟨0, -A⟩ := by
  have hcos : cosTurn m (4 * m) = 0 := by
    have hdist : turnDist m (4 * m) = m := by
      rw [turnDist, Nat.mod_eq_of_lt (by omega), if_pos (by omega)]
    rw [cosTurn_eq_of_turnDist, hdist, if_pos le_rfl, cosQuarter_quarter hm]
    rfl
  have hsin : cosTurn (4 * m + 3 * (4 * m)) (4 * (4 * m)) = fxOne := by
    rw [cosTurn_congr (k := 0) (by rw [show 4 * m + 3 * (4 * m) = 4 * (4 * m) by ring, Nat.mod_self, Nat.zero_mod]),
      cosTurn_zero (by omega)]
  have hzero : rhaz 0 = 0 := by decide
  refine cx_ext ?_ ?_
  · rw [twiddle_re, hcos, mul_zero, hzero]
  · rw [twiddle_im, hsin, rhaz_neg, rhaz_mul_fxOne hA]

/-- In the first quarter the cosine is not negative and the sine not positive. -/
theorem twiddle_signs (hA : 0 ≤ A) (hn : 0 < n) (hk : 4 * k ≤ n) : 0 ≤ (twiddle A n k).re ∧ (twiddle A n k).im ≤ 0 := by
  have hcos : 0 ≤ cosTurn k n := cosTurn_nonneg (by
    rw [turnDist, Nat.mod_eq_of_lt (by omega), if_pos (by omega)]
    exact hk)
  have hsin : 0 ≤ cosTurn (4 * k + 3 * n) (4 * n) := cosTurn_nonneg (by
    rcases Nat.lt_or_ge (4 * k) n with hlt | hge
    · rw [turnDist, Nat.mod_eq_of_lt (by omega), if_neg (by omega)]
      omega
    · rw [turnDist, show 4 * k + 3 * n = 4 * n by omega, Nat.mod_self]
      simp)
  rw [twiddle_re, twiddle_im, rhaz_neg]
  exact ⟨rhaz_nonneg (mul_nonneg hA hcos), neg_nonpos.mpr (rhaz_nonneg (mul_nonneg hA hsin))⟩

end

/-! ## How near the values are -/

/-- Entry `j` of the table of 2048 points and entry `2 j`: the norm and the two double-angle formulas hold to within twice the
amplitude. -/
def nearAt (A : Int) (j : Nat) : Bool :=
  let z := twiddle A 2048 j
  let w := twiddle A 2048 (2 * j)
  decide (|z.re * z.re + z.im * z.im - A * A| ≤ 2 * A) && decide (|z.re * z.re - z.im * z.im - A * w.re| ≤ 2 * A)
    && decide (|2 * z.re * z.im - A * w.im| ≤ 2 * A)

theorem nearAt_iff (A : Int) (j : Nat) : nearAt A j = true ↔
    |(twiddle A 2048 j).re * (twiddle A 2048 j).re + (twiddle A 2048 j).im * (twiddle A 2048 j).im - A * A| ≤ 2 * A
      ∧ |(twiddle A 2048 j).re * (twiddle A 2048 j).re - (twiddle A 2048 j).im * (twiddle A 2048 j).im
          - A * (twiddle A 2048 (2 * j)).re| ≤ 2 * A
      ∧ |2 * (twiddle A 2048 j).re * (twiddle A 2048 j).im - A * (twiddle A 2048 (2 * j)).im| ≤ 2 * A := by
  simp only [nearAt, Bool.and_eq_true, decide_eq_true_eq, and_assoc]

theorem nearAt_mod (A : Int) (j : Nat) : nearAt A (j % 2048) = nearAt A j := by
  have hdouble : twiddle A 2048 (2 * (j % 2048)) = twiddle A 2048 (2 * j) := by
    have hmod : 2 * (j % 2048) % 2048 = 2 * j % 2048 := by omega
    rw [twiddle_mod A 2048 (2 * (j % 2048)), hmod, ← twiddle_mod]
  simp only [nearAt, hdouble, ← twiddle_mod]

/-- Half a turn further both formulas say the same. -/
theorem nearAt_add_half (A : Int) (j : Nat) : nearAt A (j + 1024) = nearAt A j := by
  have hhalf := twiddle_add_half (m := 1024) (by decide) A j
  have hdouble : twiddle A 2048 (2 * (j + 1024)) = twiddle A 2048 (2 * j) := by
    have hmod : 2 * (j + 1024) % 2048 = 2 * j % 2048 := by omega
    rw [twiddle_mod A 2048 (2 * (j + 1024)), hmod, ← twiddle_mod]
  simp only [nearAt, hdouble, show twiddle A 2048 (j + 1024) = _ from hhalf, neg_mul, mul_neg, neg_neg]

/-- At the opposite angle they say the same of the conjugate values. -/
theorem nearAt_sub (A : Int) {j : Nat} (hj : j ≤ 512) : nearAt A (2048 - j) = nearAt A j := by
  have hconj := twiddle_sub (n := 2048) (by decide) (show j ≤ 2048 by omega) A
  have hdouble : twiddle A 2048 (2 * (2048 - j)) = ⟨(twiddle A 2048 (2 * j)).re, -(twiddle A 2048 (2 * j)).im⟩ := by
    have hmod : 2 * (2048 - j) % 2048 = (2048 - 2 * j) % 2048 := by omega
    rw [twiddle_mod A 2048 (2 * (2048 - j)), hmod, ← twiddle_mod]
    exact twiddle_sub (by decide) (by omega) A
  have habs : |2 * (twiddle A 2048 j).re * -(twiddle A 2048 j).im - A * -(twiddle A 2048 (2 * j)).im|
      = |2 * (twiddle A 2048 j).re * (twiddle A 2048 j).im - A * (twiddle A 2048 (2 * j)).im| := by
    rw [← abs_neg]
    congr 1
    ring
  simp only [nearAt, hconj, hdouble, habs, neg_mul_neg]

/-- One quarter of the table stands for all of it. -/
theorem nearAt_of_quarter {A : Int} (h : (List.range 513).all (nearAt A) = true) (j : Nat) : nearAt A j = true := by
  have hquarter (i : Nat) (hi : i ≤ 512) : nearAt A i = true :=
    List.all_eq_true.mp h i (List.mem_range.mpr (by omega))
  have hhalf (i : Nat) (hi : i ≤ 1024) : nearAt A i = true := by
    rcases Nat.lt_or_ge 512 i with hgt | hle
    · rw [← nearAt_add_half, show i + 1024 = 2048 - (1024 - i) by omega, nearAt_sub A (by omega)]
      exact hquarter _ (by omega)
    · exact hquarter i hle
  have hlt : j % 2048 < 2048 := Nat.mod_lt j (by decide)
  rw [← nearAt_mod]
  rcases Nat.lt_or_ge 1024 (j % 2048) with hgt | hle
  · rw [show j % 2048 = (j % 2048 - 1024) + 1024 by omega, nearAt_add_half]
    exact hhalf _ (by omega)
  · exact hhalf _ hle

theorem nearAt_narrow : (List.range 513).all (nearAt 32767) = true := by decide +kernel

theorem nearAt_wide : (List.range 513).all (nearAt 2147483647) = true := by decide +kernel

/-- Every table of `2^e` points is every so many entries of the one of 2048. -/
theorem twiddle_pow (A : Int) {e : Nat} (he : e ≤ 11) (k : Nat) : twiddle A (2 ^ e) k = twiddle A 2048 (2 ^ (11 - e) * k) := by
  have hsize : 2 ^ (11 - e) * 2 ^ e = 2048 := by
    rw [← Nat.pow_add, Nat.sub_add_cancel he]
  rw [← hsize, twiddle_scale (Nat.two_pow_pos _)]

/-- A table of rounded roots of unity, near at one quarter, is one throughout. -/
theorem rootsOfUnity_twiddle {A : Int} (hA : 0 ≤ A) (hnear : ∀ j, nearAt A j = true) : RootsOfUnity (twiddle A) A := by
  intro e hlo hhi N
  have hN : 0 < N := Nat.two_pow_pos e
  obtain ⟨m, hm, hNm⟩ : ∃ m, 0 < m ∧ N = 2 * m := by
    obtain ⟨k, rfl⟩ := Nat.exists_eq_add_of_le' hlo
    exact ⟨2 ^ k, Nat.two_pow_pos k, Nat.pow_succ'⟩
  have hhalf : N / 2 = m := by omega
  refine ⟨twiddle_zero hA hN, ?_, fun htwo => ?_, fun k => ⟨twiddle_mod A N k, ?_, fun hk => twiddle_sub hN hk A,
    twiddle_signs hA hN, ?_, fun hlt => ⟨twiddle_scale two_pos A N k, ?_⟩⟩⟩
  · have hzero := twiddle_add_half hm A 0
    rw [← hNm, Nat.zero_add, twiddle_zero hA hN] at hzero
    rw [hhalf, hzero, neg_zero]
  · obtain ⟨q, hq⟩ : ∃ q, N = 4 * q := by
      obtain ⟨k, rfl⟩ := Nat.exists_eq_add_of_le' htwo
      exact ⟨2 ^ k, by rw [show N = 2 ^ (k + 2) from rfl]; ring⟩
    rw [show N / 4 = q by omega, hq]
    exact twiddle_quarter hA (by omega)
  · rw [hhalf, hNm]
    exact twiddle_add_half hm A k
  · rw [twiddle_pow A hhi]
    exact ((nearAt_iff A _).mp (hnear _)).1
  · have hdouble : twiddle A N k = twiddle A 2048 (2 * (2 ^ (10 - e) * k)) := by
      rw [twiddle_pow A hhi, ← Nat.mul_assoc, ← Nat.pow_succ', show (10 - e).succ = 11 - e by omega]
    have hfine : twiddle A (2 * N) k = twiddle A 2048 (2 ^ (10 - e) * k) := by
      rw [← Nat.pow_succ', twiddle_pow A (show e + 1 ≤ 11 by omega), show 11 - (e + 1) = 10 - e by omega]
    rw [hdouble, hfine]
    exact ((nearAt_iff A _).mp (hnear _)).2

/-- Settles O31: the stages element by element; the tables by their symmetries and one quarter of their values. -/
theorem transformsFollowTheStages : Obligations.TransformsFollowTheStages := by
  refine ⟨fun m x hm => ?_, rootsOfUnity_twiddle (by decide) (nearAt_of_quarter nearAt_narrow),
    rootsOfUnity_twiddle (by decide) (nearAt_of_quarter nearAt_wide)⟩
  have hnarrow : fft .k16 m x = transform false m x := fft_eq false m x
  have hwide : fft .k32 m x = transform true m x := fft_eq true m x
  rw [hnarrow, hwide]
  exact ⟨rfl, rfl, length_transform false m x, length_transform true m x, fun z => transform_narrow_bounds hm x,
    fun z => transform_wide_bounds hm x⟩

end Sys2Proof.Proofs.Roots
end

section
/-! SUPPORT. WIN.GEN (R162) and the window coefficients (R161, R163): exact rounding of the formulas, their values within the range of
the table, and their distance from the formulas over the twiddle ROM's cosines. -/

namespace Sys2Proof.Proofs.WinGen

open Sys2Proof.Machine Sys2Proof.Claim Sys2Proof.Proofs.Bitmap Sys2Proof.Proofs.Control Sys2Proof.Proofs.Roots

set_option Elab.async false

/-! ## The double angle of the exact cosine -/

/-- `2 c^2 - 1` is the cosine of twice the angle, to 42 bits, at entry `j` of 2048. -/
def doubleAt (j : Nat) : Bool :=
  decide (|(fxOne : Int) * cosTurn (2 * j) 2048 - (2 * (cosTurn j 2048 * cosTurn j 2048) - fxOne * fxOne)| ≤ 2 ^ 70 * fxOne)

theorem doubleAt_mod (j : Nat) : doubleAt (j % 2048) = doubleAt j := by
  have hmod : 2 * (j % 2048) % 2048 = 2 * j % 2048 := by omega
  simp only [doubleAt, cosTurn_congr hmod, cosTurn_mod]

theorem doubleAt_add_half (j : Nat) : doubleAt (j + 1024) = doubleAt j := by
  have hmod : 2 * (j + 1024) % 2048 = 2 * j % 2048 := by omega
  have hhalf : cosTurn (j + 1024) 2048 = -cosTurn j 2048 := cosTurn_add_half (m := 1024) (by decide) j
  simp only [doubleAt, cosTurn_congr hmod, hhalf, neg_mul_neg]

theorem doubleAt_sub {j : Nat} (hj : j ≤ 2048) : doubleAt (2048 - j) = doubleAt j := by
  have hdouble : cosTurn (2 * (2048 - j)) 2048 = cosTurn (2 * j) 2048 :=
    WindowIndex.cosTurn_eq_of_dvd (by decide) ⟨2, by omega⟩
  have hsame : cosTurn (2048 - j) 2048 = cosTurn j 2048 := WindowIndex.cosTurn_eq_of_dvd (by decide) ⟨1, by omega⟩
  simp only [doubleAt, hdouble, hsame]

theorem doubleAt_quarter : (List.range 513).all doubleAt = true := by decide +kernel

theorem doubleAt_all (j : Nat) : doubleAt j = true := by
  have hquarter (i : Nat) (hi : i ≤ 512) : doubleAt i = true :=
    List.all_eq_true.mp doubleAt_quarter i (List.mem_range.mpr (by omega))
  have hhalf (i : Nat) (hi : i ≤ 1024) : doubleAt i = true := by
    rcases Nat.lt_or_ge 512 i with hgt | hle
    · rw [← doubleAt_add_half, show i + 1024 = 2048 - (1024 - i) by omega, doubleAt_sub (by omega)]
      exact hquarter _ (by omega)
    · exact hquarter i hle
  have hlt : j % 2048 < 2048 := Nat.mod_lt j (by decide)
  rw [← doubleAt_mod]
  rcases Nat.lt_or_ge 1024 (j % 2048) with hgt | hle
  · rw [show j % 2048 = (j % 2048 - 1024) + 1024 by omega, doubleAt_add_half]
    exact hhalf _ (by omega)
  · exact hhalf _ hle

/-- The double-angle formula for every window of `2^e + 1` positions. -/
theorem cosTurn_double {e : Nat} (he : e ≤ 11) (n : Nat) :
    |(fxOne : Int) * cosTurn (2 * n) (2 ^ e) - (2 * (cosTurn n (2 ^ e) * cosTurn n (2 ^ e)) - fxOne * fxOne)|
      ≤ 2 ^ 70 * fxOne := by
  have hsize : 2 ^ (11 - e) * 2 ^ e = 2048 := by rw [← Nat.pow_add, Nat.sub_add_cancel he]
  have hscale (k : Nat) : cosTurn k (2 ^ e) = cosTurn (2 ^ (11 - e) * k) 2048 := by
    rw [← hsize, cosTurn_scale (Nat.two_pow_pos _)]
  have hnear := of_decide_eq_true (doubleAt_all (2 ^ (11 - e) * n))
  rwa [← Nat.mul_left_comm, ← hscale, ← hscale] at hnear

/-! ## Rounding the formulas

`F` stands for the number 1 of the exact cosines, `A` for the amplitude of the table's. -/

section
variable {F A q c C : Int}

/-- A coefficient rounded from `q * x / (n * F)` to nearest and kept below `q` is within two halves of it, and `d / F` more where
`x` may leave the range by `d`. -/
theorem rounded_near {n d x v w : Int} (hF : 0 < F) (hn : 0 < n) (hq : 1 ≤ q) (hd : 0 ≤ d) (hdn : 2 * (q * d) < n * F)
    (hlo : -d ≤ x) (hhi : x ≤ n * F + d) (hv : v = (2 * (q * x) + n * F) / (2 * (n * F))) (hw : w = min (q - 1) (max v 0)) :
    |n * F * w - q * x| ≤ n * F + q * d := by
  have hnF : 0 < n * F := Int.mul_pos hn hF
  have hlow := Int.mul_ediv_self_le (x := 2 * (q * x) + n * F) (k := 2 * (n * F)) (by omega)
  have hupp := Int.lt_mul_ediv_self_add (x := 2 * (q * x) + n * F) (k := 2 * (n * F)) (by omega)
  rw [← hv, Int.mul_assoc] at hlow hupp
  have hqlo : -(q * d) ≤ q * x := by
    have := Int.mul_le_mul_of_nonneg_left hlo (show 0 ≤ q by omega)
    linarith
  have hqhi : q * x ≤ q * (n * F) + q * d := by
    have := Int.mul_le_mul_of_nonneg_left hhi (show 0 ≤ q by omega)
    linarith
  have hvlo : 0 ≤ v := by
    by_contra hneg
    have : n * F * v ≤ n * F * -1 := Int.mul_le_mul_of_nonneg_left (by omega) hnF.le
    linarith
  have hvhi : v ≤ q := by
    by_contra hgt
    have : n * F * (q + 1) ≤ n * F * v := Int.mul_le_mul_of_nonneg_left (by omega) hnF.le
    linarith
  have hqd : 0 ≤ q * d := Int.mul_nonneg (by omega) hd
  rw [hw, max_eq_left hvlo, abs_le]
  rcases hvhi.lt_or_eq with hlt | heq
  · rw [min_eq_right (by omega)]
    constructor <;> linarith
  · rw [min_eq_left (by omega)]
    have hexpand : n * F * (q - 1) = n * F * v - n * F := by rw [heq]; ring
    constructor <;> linarith

/-- A bound on a multiple is one on the number. -/
theorem abs_le_of_mul {X Y : Int} (hF : 0 < F) (h : |F * X| ≤ F * Y) : |X| ≤ Y := by
  rw [abs_mul, abs_of_pos hF] at h
  exact le_of_mul_le_mul_left h hF

theorem abs_combination {a b X Y x y : Int} (ha : 0 ≤ a) (hb : 0 ≤ b) (hX : |X| ≤ x) (hY : |Y| ≤ y) :
    |a * X + b * Y| ≤ a * x + b * y :=
  calc |a * X + b * Y| ≤ |a * X| + |b * Y| := abs_add_le _ _
    _ = a * |X| + b * |Y| := by rw [abs_mul, abs_mul, abs_of_nonneg ha, abs_of_nonneg hb]
    _ ≤ a * x + b * y := add_le_add (Int.mul_le_mul_of_nonneg_left hX ha) (Int.mul_le_mul_of_nonneg_left hY hb)

end

theorem fxOne_int_pos : (0 : Int) < fxOne := by exact_mod_cast fxOne_pos

/-- The coefficients as integers. -/
theorem winCoef_cast (kind : WinKind) (len n : Nat) {q : Nat} (hq : 1 ≤ q) {v : Int} (h : winCoef kind len n q = min (q - 1) v.toNat) :
    (winCoef kind len n q : Int) = min ((q : Int) - 1) (max v 0) := by
  rw [h, Nat.cast_min, Int.toNat_eq_max, Nat.cast_sub hq]
  rfl

/-- The Hanning window over the table's cosines (R161). -/
theorem hanning_near (e n q : Nat) (hq : 1 ≤ q) :
    |2 * 2147483647 * (winCoef .hanning (2 ^ e + 1) n q : Int) - q * (2147483647 - (tw32 (2 ^ e) n).re)|
      ≤ 2 * 2147483647 + q := by
  have hF := fxOne_int_pos
  have hround := rhaz_near (2147483647 * cosTurn n (2 ^ e))
  have hC : (tw32 (2 ^ e) n).re = rhaz (2147483647 * cosTurn n (2 ^ e)) := twiddle_re _ _ _
  have hcoef := winCoef_cast .hanning (2 ^ e + 1) n hq rfl
  rw [Nat.add_sub_cancel] at hcoef
  rw [hC]
  have hrange := abs_le.mp (abs_cosTurn_le n (2 ^ e))
  generalize cosTurn n (2 ^ e) = c at hround hcoef hrange ⊢
  generalize rhaz (2147483647 * c) = C at hround ⊢
  generalize (winCoef .hanning (2 ^ e + 1) n q : Int) = w at hcoef ⊢
  generalize (fxOne : Int) = F at *
  have hq' : (1 : Int) ≤ q := by exact_mod_cast hq
  have hhalf : ((q : Int) * (F - c) + F) / (2 * F) = (2 * (q * (F - c)) + 2 * F) / (2 * (2 * F)) := by
    rw [← Int.mul_add, Int.mul_ediv_mul_of_pos _ _ two_pos]
  have hnear : |2 * F * w - q * (F - c)| ≤ 2 * F + q * 0 :=
    rounded_near hF (by decide) hq' le_rfl (by omega) (by omega) (by omega) hhalf hcoef
  have hcos : |F * C - 2147483647 * c| ≤ F := by
    rw [abs_le] at hround ⊢
    constructor <;> linarith
  refine abs_le_of_mul hF ?_
  calc |F * (2 * 2147483647 * w - q * (2147483647 - C))|
      = |2147483647 * (2 * F * w - q * (F - c)) + q * (F * C - 2147483647 * c)| := by congr 1; ring
    _ ≤ 2147483647 * (2 * F + q * 0) + q * F := abs_combination (by decide) (by omega) hnear hcos
    _ = F * (2 * 2147483647 + q) := by ring

/-- The Blackman formula stays in the range of a coefficient, but for the error of the double angle. -/
theorem blackman_range {F c c2 d : Int} (hF : 0 < F) (hc : -F ≤ c ∧ c ≤ F) (h : |F * c2 - (2 * (c * c) - F * F)| ≤ d * F) :
    -(8 * d) ≤ 42 * F - 50 * c + 8 * c2 ∧ 42 * F - 50 * c + 8 * c2 ≤ 100 * F + 8 * d := by
  obtain ⟨hlo, hhi⟩ := abs_le.mp h
  have hexpand : F * (42 * F - 50 * c + 8 * c2) = (F - c) * (34 * F - 16 * c) + 8 * (F * c2 - (2 * (c * c) - F * F)) := by ring
  have hnonneg : 0 ≤ (F - c) * (34 * F - 16 * c) := Int.mul_nonneg (by omega) (by omega)
  have hbound : (F - c) * (34 * F - 16 * c) ≤ 2 * F * (50 * F) :=
    mul_le_mul (by omega) (by omega) (by omega) (by omega)
  constructor
  · refine le_of_mul_le_mul_left ?_ hF
    rw [hexpand]
    linarith
  · refine le_of_mul_le_mul_left ?_ hF
    rw [hexpand]
    linarith

/-- The Blackman window over the table's cosines (R161). -/
theorem blackman_near {e n q : Nat} (he : e ≤ 9) (hq : 1 ≤ q) (hq31 : q ≤ 2 ^ 31) :
    |100 * 2147483647 * (winCoef .blackman (2 ^ e + 1) n q : Int)
        - q * (42 * 2147483647 - 50 * (tw32 (2 ^ e) n).re + 8 * (tw32 (2 ^ e) (2 * n)).re)|
      ≤ 100 * 2147483647 + 30 * q := by
  have hF := fxOne_int_pos
  have hone : (fxOne : Int) = 2 ^ 112 := by norm_num [fxOne]
  have hround := rhaz_near (2147483647 * cosTurn n (2 ^ e))
  have hround2 := rhaz_near (2147483647 * cosTurn (2 * n) (2 ^ e))
  have hC (k : Nat) : (tw32 (2 ^ e) k).re = rhaz (2147483647 * cosTurn k (2 ^ e)) := twiddle_re _ _ _
  have hcoef := winCoef_cast .blackman (2 ^ e + 1) n hq rfl
  rw [Nat.add_sub_cancel] at hcoef
  rw [hC, hC]
  have hrange := blackman_range hF (abs_le.mp (abs_cosTurn_le n (2 ^ e))) (cosTurn_double (show e ≤ 11 by omega) n)
  generalize cosTurn n (2 ^ e) = c at hround hcoef hrange ⊢
  generalize cosTurn (2 * n) (2 ^ e) = c2 at hround2 hcoef hrange ⊢
  generalize rhaz (2147483647 * c) = C at hround ⊢
  generalize rhaz (2147483647 * c2) = C2 at hround2 ⊢
  generalize (winCoef .blackman (2 ^ e + 1) n q : Int) = w at hcoef ⊢
  generalize (fxOne : Int) = F at *
  have hq' : (1 : Int) ≤ q := by exact_mod_cast hq
  have hq31' : (q : Int) ≤ 2 ^ 31 := by exact_mod_cast hq31
  have hhalf : (2 * (q : Int) * (42 * F - 50 * c + 8 * c2) + 100 * F) / (200 * F)
      = (2 * (q * (42 * F - 50 * c + 8 * c2)) + 100 * F) / (2 * (100 * F)) := by
    congr 1 <;> ring
  have hnear : |100 * F * w - q * (42 * F - 50 * c + 8 * c2)| ≤ 100 * F + q * (8 * 2 ^ 70) :=
    rounded_near hF (by decide) hq' (by decide) (by omega) hrange.1 hrange.2 hhalf hcoef
  have hcos : |50 * (F * C - 2147483647 * c) + 8 * -(F * C2 - 2147483647 * c2)| ≤ 29 * F := by
    rw [abs_le] at hround hround2 ⊢
    constructor <;> linarith
  refine abs_le_of_mul hF ?_
  calc |F * (100 * 2147483647 * w - q * (42 * 2147483647 - 50 * C + 8 * C2))|
      = |2147483647 * (100 * F * w - q * (42 * F - 50 * c + 8 * c2))
          + q * (50 * (F * C - 2147483647 * c) + 8 * -(F * C2 - 2147483647 * c2))| := by congr 1; ring
    _ ≤ 2147483647 * (100 * F + q * (8 * 2 ^ 70)) + q * (29 * F) := abs_combination (by decide) (by omega) hnear hcos
    _ ≤ F * (100 * 2147483647 + 30 * q) := by
      have hsmall : (q : Int) * (2147483647 * (8 * 2 ^ 70)) ≤ q * F :=
        Int.mul_le_mul_of_nonneg_left (by rw [hone]; decide) (by omega)
      linarith

/-! ## Exact coefficients -/

theorem winCoef_le (kind : WinKind) (len n q : Nat) : winCoef kind len n q ≤ q - 1 := Nat.min_le_left _ _

theorem winCoef_rectangular (len n q : Nat) : winCoef .rectangular len n q = q - 1 := by
  simp [winCoef]

theorem winCoef_first {len : Nat} (q : Nat) (hlen : 2 ≤ len) : winCoef .blackman len 0 q = 0 ∧ winCoef .hanning len 0 q = 0 := by
  have hcos : cosTurn 0 (len - 1) = fxOne := cosTurn_zero (by omega)
  have hF := fxOne_int_pos
  have hblackman : (2 * (q : Int) * (42 * fxOne - 50 * fxOne + 8 * fxOne) + 100 * fxOne) / (200 * fxOne) = 0 := by
    rw [show 2 * (q : Int) * (42 * fxOne - 50 * fxOne + 8 * fxOne) + 100 * fxOne = 100 * fxOne by ring]
    exact Int.ediv_eq_zero_of_lt (by omega) (by omega)
  have hhanning : ((q : Int) * (fxOne - fxOne) + fxOne) / (2 * fxOne) = 0 := by
    rw [sub_self, mul_zero, zero_add]
    exact Int.ediv_eq_zero_of_lt (by omega) (by omega)
  constructor
  · simp only [winCoef, Nat.mul_zero, hcos, hblackman]
    simp
  · simp only [winCoef, hcos, hhanning]
    simp

/-! ## The command -/

/-- A table filled below an index. -/
theorem tabGet_tabFill {α : Type} {size : Nat} (t : Vector α size) (f : Nat → α) (g : Nat) {n : Nat} (hn : n < size) (d : α) :
    tabGet (tabFill t f g) n d = if n < g then f n else tabGet t n d := by
  induction g with
  | zero => simp [tabFill]
  | succ g ih =>
    rw [tabFill, tabGet_tabSet, ih]
    by_cases hng : n = g
    · subst hng
      simp [hn]
    · rw [if_neg (fun h => hng h.1.symm)]
      exact if_congr (by omega) rfl rfl

section
variable {s : State} {table : WinTable} {kind : WinKind}

theorem admitted_winGen (table : WinTable) (kind : WinKind) (hm : s.mode = .unconfigured ∨ s.mode = .configured) :
    admitted (.winGen table kind) s.mode = true := by
  rcases hm with hm | hm <;> rw [hm] <;> rfl

/-- The operand checks as the rules word them (R162). -/
theorem winGen_checks (len gen : Nat) (q : Word) (table : WinTable) :
    ((decide (len < 2 ^ 11) && decide (2 ≤ len) && decide (len ≤ Config.maxFftSize)) = true ↔ 2 ≤ len ∧ len ≤ 1024)
      ∧ ((decide (gen < 2 ^ 11) && decide (1 ≤ gen) && decide (gen ≤ min len 512)) = true ↔ 1 ≤ gen ∧ gen ≤ len ∧ gen ≤ 512)
      ∧ ((decide (1 ≤ q.toNat) && decide (q.toNat ≤ maxOneQ table)) = true ↔ 1 ≤ q.toNat ∧ q.toNat ≤ maxOneQ table) := by
  refine ⟨?_, ?_, ?_⟩ <;> simp only [Bool.and_eq_true, decide_eq_true_eq, Config.maxFftSize, le_min_iff]
  · omega
  · omega

theorem require_true_bind (code : FaultCode) (info : Nat) (k : Unit → Seqr Unit) (s : State) :
    (require true code info >>= k) s = k () s := rfl

theorem require_false_bind (code : FaultCode) (info : Nat) (k : Unit → Seqr Unit) (s : State) :
    (require false code info >>= k) s = .error ⟨code, info⟩ s := rfl

/-- What WIN.GEN leaves in the table it selects (R162). -/
theorem generate_frame (s : State) (table : WinTable) (kind : WinKind) (L G : Nat) (Q : Word) :
    match table with
    | .win1d => s.generate table kind L G Q
          = { s with
              win1d := (s.generate table kind L G Q).win1d, win1dInfo := ⟨BitVec.ofNat 11 L, BitVec.ofNat 11 G, true, Q⟩ }
        ∧ ∀ n, n < 512 → tabGet (s.generate table kind L G Q).win1d n 0
          = if n < G then BitVec.ofNat 16 (winCoef kind L n Q.toNat) else tabGet s.win1d n 0
    | .win2d => s.generate table kind L G Q
          = { s with
              win2d := (s.generate table kind L G Q).win2d, win2dInfo := ⟨BitVec.ofNat 11 L, BitVec.ofNat 11 G, true, Q⟩ }
        ∧ ∀ n, n < 512 → tabGet (s.generate table kind L G Q).win2d n 0
          = if n < G then BitVec.ofNat 32 (winCoef kind L n Q.toNat) else tabGet s.win2d n 0 := by
  cases table with
  | win1d => exact ⟨rfl, fun n hn => tabGet_tabFill _ _ _ hn _⟩
  | win2d => exact ⟨rfl, fun n hn => tabGet_tabFill _ _ _ hn _⟩

end

/-- Settles O26: the coefficients by the exact rounding of their formulas, then the command check by check. -/
theorem winGenFillsTheTable : Obligations.WinGenFillsTheTable := by
  refine ⟨winCoef_le, winCoef_rectangular, fun L q hL => winCoef_first q hL, by decide +kernel, by decide +kernel, by decide +kernel,
    fun e n q _ he _ hq hq31 => ⟨hanning_near e n q hq, blackman_near he hq hq31⟩, fun s table kind hm => ?_⟩
  intro L G Q ok1 ok2 ok3
  have hadm := admitted_winGen table kind hm
  obtain ⟨h1, h2, h3⟩ := winGen_checks L G Q table
  have hok3 : ok3 ↔ 1 ≤ Q.toNat ∧ Q.toNat ≤ maxOneQ table := by
    cases table <;> exact Iff.rfl
  have hfault {f : Fatal} (h : winGenBody table kind s = .error f s) :
      exec (.winGen table kind) s = .next (faulted s f.code.num f.info) := exec_faulted rfl hadm h
  have hbody : winGenBody table kind s = (require (kind != .notAWindow) .cmdOperand 0xFF >>= fun _ =>
      require (decide (L < 2 ^ 11) && decide (2 ≤ L) && decide (L ≤ Config.maxFftSize)) .cmdOperand 0 >>= fun _ =>
        require (decide (G < 2 ^ 11) && decide (1 ≤ G) && decide (G ≤ min L 512)) .cmdOperand 1 >>= fun _ =>
          require (decide (1 ≤ Q.toNat) && decide (Q.toNat ≤ maxOneQ table)) .cmdOperand 2 >>= fun _ =>
            modify fun t => t.generate table kind L G Q) s := rfl
  refine ⟨fun hkind => ?_, fun hkind hbad => ?_, fun hkind hlen hbad => ?_, fun hkind hlen hgen hbad => ?_,
    fun hkind hlen hgen hone => ?_⟩
  · exact hfault (by rw [hbody, hkind]; rfl)
  · exact hfault (by
      rw [hbody, bne_iff_ne.mpr hkind, require_true_bind, Bool.eq_false_iff.mpr fun h => hbad (h1.mp h), require_false_bind])
  · exact hfault (by
      rw [hbody, bne_iff_ne.mpr hkind, require_true_bind, h1.mpr hlen, require_true_bind,
        Bool.eq_false_iff.mpr fun h => hbad (h2.mp h), require_false_bind])
  · exact hfault (by
      rw [hbody, bne_iff_ne.mpr hkind, require_true_bind, h1.mpr hlen, require_true_bind, h2.mpr hgen, require_true_bind,
        Bool.eq_false_iff.mpr fun h => hbad (hok3.mpr (h3.mp h)), require_false_bind])
  · refine ⟨s.generate table kind L G Q, exec_done rfl hadm ?_, generate_frame s table kind L G Q⟩
    rw [hbody, bne_iff_ne.mpr hkind, require_true_bind, h1.mpr hlen, require_true_bind, h2.mpr hgen, require_true_bind,
      h3.mpr (hok3.mp hone), require_true_bind, seqr_modify]

end Sys2Proof.Proofs.WinGen
end

section
/-! SUPPORT. The sequencer's typed accesses (R85, R86), one element and a block of them: what they answer where they are admitted and
own their bytes (R101), and the Fatal of the first that is not. -/

namespace Sys2Proof.Proofs.Access

open Sys2Proof.Machine Sys2Proof.Claim Sys2Proof.Proofs.Dma Sys2Proof.Proofs.Carry Sys2Proof.Proofs.Arithmetic

set_option Elab.async false

/-! ## Parts of a block -/

theorem capacity_le (c : Spaces) (tier : Nat) : c.capacity tier ≤ 2 ^ 30 := by
  unfold Spaces.capacity
  split
  · have := c.tierA.isLt; omega
  · have := c.tierB.isLt; omega
  · have := c.tierC.isLt; omega
  · have := c.adcBuf.isLt; omega
  · omega

/-- A block inside its space has its parts there too (R86). -/
theorem admits_part {c : Spaces} {write : Bool} {a n i k : Nat} (h : c.admits write a n = true) (hk : 1 ≤ k) (hpart : i + k ≤ n) :
    c.admits write (a + i) k = true := by
  rw [admits_iff] at h ⊢
  obtain ⟨htier, hfits, hadc⟩ := h
  have hcap := capacity_le c (tierOf a)
  have hsame : tierOf (a + i) = tierOf a := by
    simp only [tierOf, offsetOf] at hfits hcap ⊢
    omega
  have hoff : offsetOf (a + i) = offsetOf a + i := by
    simp only [tierOf, offsetOf] at hfits hcap ⊢
    omega
  rw [hsame, hoff]
  exact ⟨htier, by omega, hadc⟩

section
variable {s : State} {a n i k : Nat}

theorem mayRead_part (h : MayRead s a n) (hpart : i + k ≤ n) : MayRead s (a + i) k := fun j hj p hp => by
  rw [Nat.add_assoc]
  exact h (i + j) (by omega) p hp

theorem mayWrite_part (h : MayWrite s a n) (hpart : i + k ≤ n) : MayWrite s (a + i) k := fun j hj p hp => by
  rw [Nat.add_assoc]
  exact h (i + j) (by omega) p hp

/-! ## Bytes -/

theorem foreignDst_eq_false (h : ∀ p, p < 12 → (s.chan p).xfer.ownsWrite a = false) : s.foreignDst .sequencer a = false := by
  simp only [State.foreignDst, List.any_eq_false, List.mem_range, Bool.and_eq_true, not_and, Bool.not_eq_true]
  exact fun p hp _ => h p hp

/-- The sequencer reads what memory holds where no transfer owns the byte (R82, R101). -/
theorem rdByte_eq (h : ∀ p, p < 12 → (s.chan p).xfer.ownsWrite a = false) : s.rdByte .sequencer a = byteAt s a := by
  simp [State.rdByte, foreignDst_eq_false h, State.wasRaced, State.fetchesLate, byteAt]

theorem rdBytes_eq (h : MayRead s a n) : leNat (s.rdBytes .sequencer a n) = numAt s a n := by
  rw [numAt, State.rdBytes]
  congr 1
  exact List.map_congr_left fun k hk => rdByte_eq (h k (List.mem_range.mp hk))

theorem writeFree_of_mayWrite (h : MayWrite s a n) {y : Nat} (hlo : a ≤ y) (hhi : y < a + n) : WriteFree s .sequencer y := by
  have hbyte (p : Nat) (hp : p < 12) := h (y - a) (by omega) p hp
  rw [show a + (y - a) = y by omega] at hbyte
  refine ⟨foreignDst_eq_false fun p hp => (hbyte p hp).1, rfl, ?_⟩
  simp only [State.watchers, List.filter_eq_nil_iff, List.mem_range, Bool.and_eq_true, not_and, Bool.not_eq_true]
  exact fun p hp _ => (hbyte p hp).2

/-- Freedom to access is a matter of the channels, not of what memory holds. -/
theorem mayWrite_of_memory {t : State} (ht : t = { s with mem := t.mem }) (h : MayWrite s a n) : MayWrite t a n := by
  rw [ht]
  exact h

theorem stores_nil (s : State) (a : Nat) : Stores s s a [] := ⟨rfl, fun _ => (if_neg (by simp)).symm⟩

/-- Two stores one above the other are one. -/
theorem stores_append {s t u : State} {a : Nat} {bs cs : List Byte} (h1 : Stores s t a bs) (h2 : Stores t u (a + bs.length) cs) :
    Stores s u a (bs ++ cs) := by
  obtain ⟨ht, hbs⟩ := h1
  obtain ⟨hu, hcs⟩ := h2
  refine ⟨by rw [hu, ht], fun y => ?_⟩
  rw [hcs, hbs, List.length_append]
  by_cases hlo : a ≤ y ∧ y < a + bs.length
  · rw [if_neg (by omega), if_pos hlo, if_pos (by omega), Engine.listGet_append_left (by omega)]
  · by_cases hhi : a + bs.length ≤ y ∧ y < a + bs.length + cs.length
    · rw [if_pos hhi, if_pos (by omega), Engine.listGet_append_right (by omega), Nat.sub_sub]
    · rw [if_neg hhi, if_neg hlo, if_neg (by omega)]

end

/-! ## One element -/

/-- A typed read: the alignment, the bytes as a number, the value it stands for (R85). -/
def elemRead {α : Type} (al size : Nat) (value : Nat → α) (addr : Nat) : Seqr α := do
  aligned addr al
  let v ← memRead addr size
  pure (value v)

/-- A typed write (R85). -/
def elemWrite {α : Type} (al size : Nat) (bits : α → Nat) (addr : Nat) (x : α) : Seqr Unit := do
  aligned addr al
  memWrite addr size (bits x)

theorem rdU16_eq : rdU16 = elemRead 2 2 id := by
  funext addr
  simp only [rdU16, elemRead, id, bind_pure]

theorem wrC32_eq : wrC32 = elemWrite 8 8 (cxBits 32) := rfl

theorem wrU16_eq : wrU16 = elemWrite 2 2 id := rfl

section
variable {α : Type} {s : State} {al size addr : Nat}

theorem elemRead_misaligned (value : Nat → α) (h : addr % al ≠ 0) : elemRead al size value addr s = .error ⟨.memAlign, addr⟩ s := by
  rw [elemRead, seqr_bind, aligned_eq, if_neg h]
  rfl

theorem elemRead_outside (value : Nat → α) (h : addr % al = 0) (hout : s.spaces.admits false addr size = false) :
    elemRead al size value addr s = .error ⟨.memBounds, addr⟩ s := by
  rw [elemRead, seqr_bind, aligned_eq, if_pos h, thenWith_ok, seqr_bind, memRead_eq, hout]
  rfl

/-- An admitted read answers something and changes nothing. -/
theorem elemRead_answers (value : Nat → α) (h : addr % al = 0) (hin : s.spaces.admits false addr size = true) :
    elemRead al size value addr s = .ok (value (leNat (s.rdBytes .sequencer addr size))) s := by
  rw [elemRead, seqr_bind, aligned_eq, if_pos h, thenWith_ok, seqr_bind, memRead_eq, hin]
  rfl

theorem elemRead_ok (value : Nat → α) (h : Readable s addr size al) :
    elemRead al size value addr s = .ok (value (numAt s addr size)) s := by
  obtain ⟨hal, hin, hmay⟩ := h
  rw [elemRead_answers value hal hin, rdBytes_eq hmay]

theorem elemWrite_misaligned (bits : α → Nat) (x : α) (h : addr % al ≠ 0) :
    elemWrite al size bits addr x s = .error ⟨.memAlign, addr⟩ s := by
  rw [elemWrite, seqr_bind, aligned_eq, if_neg h]
  rfl

theorem elemWrite_outside (bits : α → Nat) (x : α) (h : addr % al = 0) (hout : s.spaces.admits true addr size = false) :
    elemWrite al size bits addr x s = .error ⟨.memBounds, addr⟩ s := by
  rw [elemWrite, seqr_bind, aligned_eq, if_pos h, thenWith_ok, memWrite_eq, hout]
  rfl

theorem elemWrite_ok (bits : α → Nat) (x : α) (h : Writable s addr size al) :
    ∃ t, elemWrite al size bits addr x s = .ok () t ∧ Stores s t addr (leBytes size (bits x)) := by
  obtain ⟨hal, hin, hmay⟩ := h
  refine ⟨_, ?_, stores_wrBytes (by decide) fun y hlo hhi => writeFree_of_mayWrite hmay hlo (by rwa [length_leBytes] at hhi)⟩
  rw [elemWrite, seqr_bind, aligned_eq, if_pos hal, thenWith_ok, memWrite_eq, hin]
  rfl

end

/-! ## A block of elements -/

/-- `n` elements from `src` up. -/
def readBlock {α : Type} (al size : Nat) (value : Nat → α) (src n : Nat) : Seqr (List α) :=
  readEach (fun i => elemRead al size value (src + size * i)) (List.range n)

/-- Elements from `dst` up. -/
def writeBlock {α : Type} (al size : Nat) (bits : α → Nat) (dst : Nat) (xs : List α) : Seqr Unit :=
  writeEach (fun k x => elemWrite al size bits (dst + size * k) x) 0 xs

/-- The bytes of elements in memory order (R83, R84). -/
def blockBytes {α : Type} (size : Nat) (bits : α → Nat) (xs : List α) : List Byte := xs.flatMap fun x => leBytes size (bits x)

theorem readC16s_eq (src n : Nat) : readC16s src n = readBlock 4 4 (cxOf 16) src n := rfl

theorem writeC16s_eq (dst : Nat) (xs : List Cx) : writeC16s dst xs = writeBlock 4 4 (cxBits 16) dst xs := rfl

/-- Work on a list fails where its first failing element does. -/
theorem readEach_error {α : Type} {f : Nat → Seqr α} {s : State} {n j : Nat} {e : Fatal} (hj : j < n)
    (hbefore : ∀ i, i < j → ∃ v, f i s = .ok v s) (hfail : f j s = .error e s) : readEach f (List.range n) s = .error e s := by
  have haux (l : List Nat) (hl : ∀ i ∈ l, ∃ v, f i s = .ok v s) (r : List Nat) : readEach f (l ++ j :: r) s = .error e s := by
    induction l with
    | nil => rw [List.nil_append, readEach, seqr_bind, hfail]; rfl
    | cons i l ih =>
      obtain ⟨v, hv⟩ := hl i List.mem_cons_self
      rw [List.cons_append, readEach, seqr_bind, hv, thenWith_ok, seqr_bind, ih fun k hk => hl k (List.mem_cons_of_mem i hk)]
      rfl
  have hsplit : List.range n = List.range j ++ j :: List.range' (j + 1) (n - j - 1) := by
    rw [List.range_eq_range', List.range_eq_range', show n = j + (1 + (n - j - 1)) by omega, ← List.range'_append_1,
      ← List.range'_append_1]
    simp
  rw [hsplit]
  exact haux _ (fun i hi => hbefore i (List.mem_range.mp hi)) _

theorem writeEach_append {α : Type} (f : Nat → α → Seqr Unit) (i : Nat) (xs ys : List α) :
    writeEach f i (xs ++ ys) = writeEach f i xs >>= fun _ => writeEach f (i + xs.length) ys := by
  induction xs generalizing i with
  | nil => rfl
  | cons x xs ih =>
    rw [List.cons_append, writeEach, ih, writeEach, bind_assoc, List.length_cons, Nat.add_right_comm, Nat.add_assoc]

theorem mul_mod_zero {al size a i : Nat} (hdvd : al ∣ size) (h : a % al = 0) : (a + size * i) % al = 0 :=
  Nat.mod_eq_zero_of_dvd (Nat.dvd_add (Nat.dvd_of_mod_eq_zero h) (Dvd.dvd.mul_right hdvd i))

/-- An element of a block ends within it. -/
theorem element_fits {size n i : Nat} (hi : i < n) : size * i + size ≤ size * n := by
  calc size * i + size = size * (i + 1) := by ring
    _ ≤ size * n := Nat.mul_le_mul_left _ hi

section
variable {α : Type} {s : State} {al size : Nat} (hdvd : al ∣ size) (hsize : 1 ≤ size)

theorem readBlock_misaligned (value : Nat → α) {src n : Nat} (hn : 1 ≤ n) (h : src % al ≠ 0) :
    readBlock al size value src n s = .error ⟨.memAlign, src⟩ s :=
  readEach_error hn (fun _ hi => absurd hi (Nat.not_lt_zero _)) (elemRead_misaligned value h)

include hdvd

theorem readBlock_outside (value : Nat → α) {src n j : Nat} (h : src % al = 0) (hout : FirstOutside s false src size n j) :
    readBlock al size value src n s = .error ⟨.memBounds, src + size * j⟩ s := by
  obtain ⟨hj, hbefore, hfail⟩ := hout
  exact readEach_error hj (fun i hi => ⟨_, elemRead_answers value (mul_mod_zero hdvd h) (hbefore i hi)⟩)
    (elemRead_outside value (mul_mod_zero hdvd h) hfail)

include hsize

theorem readBlock_ok (value : Nat → α) {src n : Nat} (h : Readable s src (size * n) al) :
    readBlock al size value src n s = .ok ((List.range n).map fun i => value (numAt s (src + size * i) size)) s := by
  obtain ⟨hal, hin, hmay⟩ := h
  refine readEach_ok _ _ _ _ fun i hi => elemRead_ok value ?_
  have hfit := element_fits (size := size) (List.mem_range.mp hi)
  exact ⟨mul_mod_zero hdvd hal, admits_part hin hsize hfit, mayRead_part hmay hfit⟩

omit hsize hdvd in
theorem writeBlock_misaligned (bits : α → Nat) {dst : Nat} {xs : List α} (hn : xs ≠ []) (h : dst % al ≠ 0) :
    writeBlock al size bits dst xs s = .error ⟨.memAlign, dst⟩ s := by
  obtain ⟨x, ys, rfl⟩ := List.exists_cons_of_ne_nil hn
  rw [writeBlock, writeEach, seqr_bind, elemWrite_misaligned bits x (by simpa using h)]
  rfl

omit hsize in
/-- Elements that may each be written are stored one above the other. -/
theorem writeEach_stores (bits : α → Nat) {dst : Nat} (h : dst % al = 0) (xs : List α) (i : Nat)
    (hin : ∀ k, i ≤ k → k < i + xs.length → s.spaces.admits true (dst + size * k) size = true)
    (hmay : ∀ k, i ≤ k → k < i + xs.length → MayWrite s (dst + size * k) size) :
    ∃ t, writeEach (fun k x => elemWrite al size bits (dst + size * k) x) i xs s = .ok () t
      ∧ Stores s t (dst + size * i) (blockBytes size bits xs) := by
  induction xs generalizing i s with
  | nil => exact ⟨s, rfl, stores_nil s _⟩
  | cons x xs ih =>
    obtain ⟨t, hwrite, hstore⟩ := elemWrite_ok bits x
      ⟨mul_mod_zero hdvd h, hin i le_rfl (by simp), hmay i le_rfl (by simp)⟩
    have hspaces : t.spaces = s.spaces := by rw [hstore.1]
    obtain ⟨u, hrest, hstores⟩ := ih (s := t) (i + 1)
      (fun k hlo hhi => by rw [hspaces]; exact hin k (by omega) (by simp only [List.length_cons]; omega))
      (fun k hlo hhi => mayWrite_of_memory hstore.1 (hmay k (by omega) (by simp only [List.length_cons]; omega)))
    refine ⟨u, ?_, ?_⟩
    · rw [writeEach, seqr_bind, hwrite, thenWith_ok, hrest]
    · refine stores_append hstore ?_
      rw [length_leBytes]
      rwa [Nat.mul_succ, ← Nat.add_assoc] at hstores

theorem writeBlock_ok (bits : α → Nat) {dst : Nat} {xs : List α} (h : Writable s dst (size * xs.length) al) :
    ∃ t, writeBlock al size bits dst xs s = .ok () t ∧ Stores s t dst (blockBytes size bits xs) := by
  obtain ⟨hal, hin, hmay⟩ := h
  exact writeEach_stores hdvd bits hal xs 0
    (fun k _ hk => admits_part hin hsize (element_fits (by omega)))
    (fun k _ hk => mayWrite_part hmay (element_fits (by omega)))

omit hsize in
/-- The elements before the first that lies outside are stored (R86). -/
theorem writeBlock_outside (bits : α → Nat) {dst j : Nat} {xs : List α} (h : dst % al = 0)
    (hout : FirstOutside s true dst size xs.length j) (hmay : MayWrite s dst (size * j)) :
    ∃ t, writeBlock al size bits dst xs s = .error ⟨.memBounds, dst + size * j⟩ t
      ∧ Stores s t dst (blockBytes size bits (xs.take j)) := by
  obtain ⟨hj, hbefore, hfail⟩ := hout
  have htake : (xs.take j).length = j := by rw [List.length_take]; omega
  obtain ⟨t, hwrite, hstore⟩ := writeEach_stores hdvd bits h (xs.take j) 0 (fun k _ hk => hbefore k (by omega))
    (fun k _ hk => mayWrite_part hmay (element_fits (by omega)))
  have hspaces : t.spaces = s.spaces := by rw [hstore.1]
  obtain ⟨x, ys, hdrop⟩ := List.exists_cons_of_ne_nil (l := xs.drop j) (by
    intro hnil
    have := congrArg List.length hnil
    simp at this
    omega)
  refine ⟨t, ?_, hstore⟩
  have hsplit : writeBlock al size bits dst xs s = writeBlock al size bits dst (xs.take j ++ xs.drop j) s := by
    rw [List.take_append_drop]
  rw [hsplit, writeBlock, writeEach_append, seqr_bind, hwrite, thenWith_ok, htake, hdrop, writeEach, seqr_bind, Nat.zero_add,
    elemWrite_outside bits x (mul_mod_zero hdvd h) (by rw [hspaces]; exact hfail)]
  rfl

end

end Sys2Proof.Proofs.Access
end

section
/-! SUPPORT. The windowed transforms over memory (R166 to R168, R187) and the commands FFT1D, FFT2D, FFT3D (R176 to R178). -/

namespace Sys2Proof.Proofs.Transform

open Sys2Proof.Machine Sys2Proof.Claim Sys2Proof.Proofs.Bitmap Sys2Proof.Proofs.Control Sys2Proof.Proofs.Arithmetic
  Sys2Proof.Proofs.Engine Sys2Proof.Proofs.Access

set_option Elab.async false

/-! ## Windowing -/

theorem mapPos_eq (f : Nat → Cx → Cx) (x : List Cx) (n : Nat) :
    mapPos f n x = (List.range x.length).map fun i => f (n + i) (listGet x i Cx.zero) := by
  induction x generalizing n with
  | nil => rfl
  | cons z x ih =>
    rw [mapPos, ih, List.length_cons, List.range_succ_eq_map, List.map_cons, List.map_map]
    congr 1
    refine List.map_congr_left fun i _ => ?_
    simp only [Function.comp_apply, listGet, List.getD_cons_succ, Nat.add_right_comm n 1 i, Nat.add_assoc]

/-- A sample windowed, by the model's saturation or the rules' (R166, R167). -/
theorem applyCoef_eq {sat : Int → Int} {n : Nat} (hsat : ∀ v, sat v = satTo n v) (z : Cx) (w : Nat) :
    applyCoef sat z w = ⟨satTo n (roundShift (z.re * (w : Int)) 15), satTo n (roundShift (z.im * (w : Int)) 15)⟩ := by
  simp only [applyCoef, hsat, rndShr_eq]

theorem mapPos_win16 (s : State) (x : List Cx) : mapPos s.win16 0 x = windowed 16 (coef1 s) x := by
  rw [mapPos_eq, windowed]
  refine List.map_congr_left fun i _ => ?_
  rw [Nat.zero_add, State.win16, applyCoef_eq sat16_eq]
  rfl

theorem mapPos_win32 (s : State) (x : List Cx) : mapPos s.win32 0 x = windowed 32 (coef2 s) x := by
  rw [mapPos_eq, windowed]
  refine List.map_congr_left fun i _ => ?_
  rw [Nat.zero_add, State.win32, applyCoef_eq sat32_eq]
  rfl

theorem length_windowed (n : Nat) (coef : Nat → Nat) (x : List Cx) : (windowed n coef x).length = x.length := by
  rw [windowed, List.length_map, List.length_range]

/-- `RangeFft` of a chirp's samples (R187). -/
theorem rangeFft_eq {s : State} {x : List Cx} (hx : x.length = s.ns) : s.rangeFft x = rangeSpectrum s x := by
  rw [State.rangeFft, fft16_eq, zeroPad, mapPos_win16, length_windowed, hx]
  rfl

/-- `DopplerFft` (R187). -/
theorem dopplerFft_eq (s : State) (x : List Cx) : s.dopplerFft x = dopplerSpectrum s x := by
  rw [State.dopplerFft, fft32_eq, mapPos_win32]
  rfl

/-- `AzimuthFft` (R187). -/
theorem azimuthFft_eq (x : List Cx) : azimuthFft x = transform true 6 x := by
  have hlog : Nat.log2 Config.numAngleBins = 6 := by decide
  rw [azimuthFft, fft32_eq, hlog]

/-- A power of two is 2 to its logarithm. -/
theorem two_pow_log2 {n e : Nat} (h : n = 2 ^ e) : 2 ^ Nat.log2 n = n := by
  rw [h, Nat.log2_two_pow]

theorem two_pow_log2_le {n : Nat} (hn : 1 ≤ n) : 2 ^ Nat.log2 n ≤ n := Nat.log2_self_le (by omega)

section
variable {s : State} (hgeo : LegalGeometry s.act)
include hgeo

theorem ns_pos : 1 ≤ s.ns := by
  obtain ⟨-, hlo, -⟩ : CheckHolds s.act 3 := hgeo 3 (by decide)
  exact Nat.le_trans (by decide) hlo

theorem nr_pow : ∃ e, s.nr = 2 ^ e := by
  obtain ⟨⟨e, -, he⟩, -⟩ : CheckHolds s.act 4 := hgeo 4 (by decide)
  exact ⟨e, he⟩

theorem nd_pow : ∃ e, s.nd = 2 ^ e := by
  obtain ⟨⟨e, -, he⟩, -⟩ : CheckHolds s.act 5 := hgeo 5 (by decide)
  exact ⟨e, he⟩

theorem nd_pos : 1 ≤ s.nd := by
  obtain ⟨e, he⟩ := nd_pow hgeo
  exact he ▸ Nat.two_pow_pos e

theorem nr_pos : 1 ≤ s.nr := by
  obtain ⟨e, he⟩ := nr_pow hgeo
  exact he ▸ Nat.two_pow_pos e

theorem length_rangeSpectrum (x : List Cx) : (rangeSpectrum s x).length = s.nr := by
  obtain ⟨e, he⟩ := nr_pow hgeo
  rw [rangeSpectrum, length_transform, two_pow_log2 he]

theorem length_dopplerSpectrum (x : List Cx) : (dopplerSpectrum s x).length = s.nd := by
  obtain ⟨e, he⟩ := nd_pow hgeo
  rw [dopplerSpectrum, length_transform, two_pow_log2 he]

end

/-! ## A body that reads a block and writes its transform -/

/-- Read a block, transform it, write the result. -/
def transformBody (al size al' size' : Nat) (value : Nat → Cx) (bits : Cx → Nat) (f : List Cx → List Cx) (src dst n : Nat) : Seqr Unit := do
  let x ← readBlock al size value src n
  writeBlock al' size' bits dst (f x)

section
variable {s : State} {al size al' size' src dst n : Nat} {value : Nat → Cx} {bits : Cx → Nat} {f : List Cx → List Cx}
  (hdvd : al ∣ size) (hsize : 1 ≤ size) (hdvd' : al' ∣ size') (hsize' : 1 ≤ size')

/-- The block read. -/
def blockAt (value : Nat → Cx) (s : State) (src size n : Nat) : List Cx :=
  (List.range n).map fun i => value (numAt s (src + size * i) size)

theorem transformBody_misaligned (hn : 1 ≤ n) (h : src % al ≠ 0) :
    transformBody al size al' size' value bits f src dst n s = .error ⟨.memAlign, src⟩ s := by
  rw [transformBody, seqr_bind, readBlock_misaligned value hn h]
  rfl

include hdvd in
theorem transformBody_outside {j : Nat} (h : src % al = 0) (hout : FirstOutside s false src size n j) :
    transformBody al size al' size' value bits f src dst n s = .error ⟨.memBounds, src + size * j⟩ s := by
  rw [transformBody, seqr_bind, readBlock_outside hdvd value h hout]
  rfl

include hdvd hsize in
theorem transformBody_eq (h : Readable s src (size * n) al) : transformBody al size al' size' value bits f src dst n s
    = writeBlock al' size' bits dst (f (blockAt value s src size n)) s := by
  rw [transformBody, seqr_bind, readBlock_ok hdvd hsize value h]
  rfl

include hdvd hsize hdvd' hsize' in
/-- The three ends of a body whose source can be read: a misaligned destination, one that leaves its space, and the result stored. -/
theorem transformBody_written {m : Nat} {body : Seqr Unit} {out : List Cx}
    (hbody : body s = transformBody al size al' size' value bits f src dst n s) (hout : f (blockAt value s src size n) = out)
    (hlen : out.length = m) (h : Readable s src (size * n) al) (hm : 1 ≤ m) :
    (dst % al' ≠ 0 → body s = .error ⟨.memAlign, dst⟩ s)
      ∧ (dst % al' = 0 → ∀ j, FirstOutside s true dst size' m j → MayWrite s dst (size' * j) →
        ∃ t, body s = .error ⟨.memBounds, dst + size' * j⟩ t ∧ Stores s t dst (blockBytes size' bits (out.take j)))
      ∧ (Writable s dst (size' * m) al' →
        ∃ t, body s = .ok () t ∧ Stores s t dst (blockBytes size' bits out)) := by
  have hne : out ≠ [] := List.ne_nil_of_length_pos (by omega)
  subst hlen
  rw [hbody, transformBody_eq hdvd hsize h, hout]
  exact ⟨writeBlock_misaligned bits hne, fun hal j => writeBlock_outside hdvd' bits hal, writeBlock_ok hdvd' hsize' bits⟩

end

/-- Settles O28: the window check, then the block read, transformed and written. -/
theorem fft1dTransformsTheBlock : Obligations.Fft1dTransformsTheBlock := by
  intro s hm hgeo src dst out
  have hadm : admitted .fft1d s.mode = true := by rw [hm]; rfl
  have hbody (h : s.winOk1D = true) :
      fft1dBody s = transformBody 4 4 4 4 (cxOf 16) (cxBits 16) s.rangeFft src dst s.ns s := by
    rw [fft1dBody, seqr_bind, seqr_get, thenWith_ok, h]
    rfl
  have hblock : blockAt (cxOf 16) s src 4 s.ns = c16sAt s src s.ns := rfl
  have hout : s.rangeFft (blockAt (cxOf 16) s src 4 s.ns) = out := rangeFft_eq (by simp [blockAt])
  have hlen : out.length = s.nr := length_rangeSpectrum hgeo _
  refine ⟨fun h => exec_faulted (f := ⟨.cfgWindow, 0⟩) rfl hadm ?_,
    fun h hal => exec_faulted (f := ⟨.memAlign, src⟩) rfl hadm ?_, fun h hal j hfirst =>
      exec_faulted (f := ⟨.memBounds, src + 4 * j⟩) rfl hadm ?_,
    fun h hread => ?_⟩
  · rw [fft1dBody, seqr_bind, seqr_get, thenWith_ok, h]
    rfl
  · rw [hbody h, transformBody_misaligned (ns_pos hgeo) hal]
  · rw [hbody h, transformBody_outside (by decide) hal hfirst]
  · obtain ⟨hmis, hoff, hok⟩ := transformBody_written (by decide) (by decide) (by decide) (by decide) (hbody h) hout hlen hread (nr_pos hgeo)
    refine ⟨fun hal => exec_faulted rfl hadm (hmis hal), fun hal j hfirst hmay => ?_, fun hw => ⟨hlen, ?_⟩⟩
    · obtain ⟨t, ht, hst⟩ := hoff hal j hfirst hmay
      exact ⟨t, exec_faulted rfl hadm ht, hst⟩
    · obtain ⟨t, ht, hst⟩ := hok hw
      exact ⟨t, exec_done rfl hadm ht, hst⟩

/-- Settles O29: as FFT1D, over the Doppler window. -/
theorem fft2dTransformsTheBlock : Obligations.Fft2dTransformsTheBlock := by
  intro s hm hgeo src dst out
  have hadm : admitted .fft2d s.mode = true := by rw [hm]; rfl
  have hbody (h : s.winOk2D = true) :
      fft2dBody s = transformBody 4 4 8 8 (cxOf 16) (cxBits 32) s.dopplerFft src dst s.nd s := by
    rw [fft2dBody, seqr_bind, seqr_get, thenWith_ok, h]
    rfl
  have hout : s.dopplerFft (blockAt (cxOf 16) s src 4 s.nd) = out := dopplerFft_eq s _
  have hlen : out.length = s.nd := length_dopplerSpectrum hgeo _
  refine ⟨fun h => exec_faulted (f := ⟨.cfgWindow, 1⟩) rfl hadm ?_,
    fun h hal => exec_faulted (f := ⟨.memAlign, src⟩) rfl hadm ?_, fun h hal j hfirst =>
      exec_faulted (f := ⟨.memBounds, src + 4 * j⟩) rfl hadm ?_,
    fun h hread => ?_⟩
  · rw [fft2dBody, seqr_bind, seqr_get, thenWith_ok, h]
    rfl
  · rw [hbody h, transformBody_misaligned (nd_pos hgeo) hal]
  · rw [hbody h, transformBody_outside (by decide) hal hfirst]
  · obtain ⟨hmis, hoff, hok⟩ := transformBody_written (by decide) (by decide) (by decide) (by decide) (hbody h) hout hlen hread (nd_pos hgeo)
    refine ⟨fun hal => exec_faulted rfl hadm (hmis hal), fun hal j hfirst hmay => ?_, fun hw => ⟨hlen, ?_⟩⟩
    · obtain ⟨t, ht, hst⟩ := hoff hal j hfirst hmay
      exact ⟨t, exec_faulted rfl hadm ht, hst⟩
    · obtain ⟨t, ht, hst⟩ := hok hw
      exact ⟨t, exec_done rfl hadm ht, hst⟩

/-- Settles O30: as FFT1D, without a window and of fixed size. -/
theorem fft3dTransformsTheBlock : Obligations.Fft3dTransformsTheBlock := by
  intro s hm src dst out
  have hadm : admitted .fft3d s.mode = true := by rw [hm]; rfl
  have hbody : fft3dBody s = transformBody 8 8 8 8 (cxOf 32) (cxBits 32) azimuthFft src dst 64 s := rfl
  have hout : azimuthFft (blockAt (cxOf 32) s src 8 64) = out := azimuthFft_eq _
  have hlen : out.length = 64 := length_transform true 6 _
  refine ⟨fun hal => exec_faulted (f := ⟨.memAlign, src⟩) rfl hadm ?_, fun hal j hfirst =>
      exec_faulted (f := ⟨.memBounds, src + 8 * j⟩) rfl hadm ?_, fun hread => ?_⟩
  · rw [hbody, transformBody_misaligned (by decide) hal]
  · rw [hbody, transformBody_outside (by decide) hal hfirst]
  · obtain ⟨hmis, hoff, hok⟩ := transformBody_written (by decide) (by decide) (by decide) (by decide) hbody hout hlen hread (by decide)
    refine ⟨fun hal => exec_faulted rfl hadm (hmis hal), fun hal j hfirst hmay => ?_, fun hw => ⟨hlen, ?_⟩⟩
    · obtain ⟨t, ht, hst⟩ := hoff hal j hfirst hmay
      exact ⟨t, exec_faulted rfl hadm ht, hst⟩
    · obtain ⟨t, ht, hst⟩ := hok hw
      exact ⟨t, exec_done rfl hadm ht, hst⟩

end Sys2Proof.Proofs.Transform
end

section
/-! SUPPORT. What each command can write (R26, R27, R59): the state in parts, each with the commands that may write it, and the bytes a
command may store. -/

namespace Sys2Proof.Proofs.Frames

open Sys2Proof.Machine Sys2Proof.Claim Sys2Proof.Proofs.Carry Sys2Proof.Proofs.Steps Sys2Proof.Proofs.Engine
  Sys2Proof.Proofs.Transform

set_option Elab.async false

/-! ## The parts of the state -/

/-- The parts a command may write one without the other. -/
inductive Part where
  | host | before | config | cursor | counters | chirpToken | frameToken | bitmap | windows | channels
  | rawTable | rawCount | objTable | objCount | descTable | descCount | res0 | res1 | shown | late | memory

/-- The part is as before. The mode, `SEQ`, `FAULT` and `IRQ_STATUS`, which every command may write, are in none. -/
def Part.Same (p : Part) (s t : State) : Prop :=
  match p with
  | .host =>
    (t.stg, t.arg, t.argPast, t.irqEnable, t.waitMode, t.logAvail, t.spaces, t.agenda, t.tick, t.busData, t.memData, t.chirpScr,
        t.frameScr, t.frameCount)
      = (s.stg, s.arg, s.argPast, s.irqEnable, s.waitMode, s.logAvail, s.spaces, s.agenda, s.tick, s.busData, s.memData,
        s.chirpScr, s.frameScr, s.frameCount)
  | .before => t.before = s.before
  | .config => (t.act, t.dcSum, t.numVirtAnt, t.chirpsPerFrame) = (s.act, s.dcSum, s.numVirtAnt, s.chirpsPerFrame)
  | .cursor => t.bmpCursor = s.bmpCursor
  | .counters => (t.chirpCount, t.txAntCount, t.dopBinCount, t.dcCount) = (s.chirpCount, s.txAntCount, s.dopBinCount, s.dcCount)
  | .chirpToken => t.chirpToken = s.chirpToken
  | .frameToken => t.frameToken = s.frameToken
  | .bitmap => t.bmpWord = s.bmpWord
  | .windows => (t.win1d, t.win1dInfo, t.win2d, t.win2dInfo) = (s.win1d, s.win1dInfo, s.win2d, s.win2dInfo)
  | .channels => t.dma = s.dma
  | .rawTable => (t.rawObj, t.rawTruncCount) = (s.rawObj, s.rawTruncCount)
  | .rawCount => t.numRawObj = s.numRawObj
  | .objTable => (t.objOut, t.objTruncCount) = (s.objOut, s.objTruncCount)
  | .objCount => t.numObjOut = s.numObjOut
  | .descTable => (t.outDesc, t.droppedFrames) = (s.outDesc, s.droppedFrames)
  | .descCount => t.numOutDesc = s.numOutDesc
  | .res0 => t.res0 = s.res0
  | .res1 => t.res1 = s.res1
  | .shown => t.window = s.window
  | .late => t.lateSamples = s.lateSamples
  | .memory => (t.mem, t.raced) = (s.mem, s.raced)

/-- The opcodes of the commands that may write a part. -/
def Part.writers : Part → List Nat
  | .host => []
  | .before => [0x71]
  | .config => [0x01]
  | .cursor => [0x01, 0x10, 0x13]
  | .counters => [0x01, 0x02]
  | .chirpToken => [0x01, 0x02, 0x03, 0x70]
  | .frameToken => [0x01, 0x02, 0x71]
  | .bitmap => [0x01, 0x10, 0x11, 0x40]
  | .windows => [0x20]
  | .channels => [0x01, 0x02, 0x03, 0x30, 0x31, 0x32, 0x33, 0x60]
  | .rawTable => [0x41]
  | .rawCount => [0x01, 0x41]
  | .objTable => [0x50, 0x60]
  | .objCount => [0x01, 0x50, 0x60]
  | .descTable => [0x72]
  | .descCount => [0x01, 0x72]
  | .res0 => [0x12, 0x13, 0x40, 0x41, 0x50, 0x60, 0x61]
  | .res1 => [0x41, 0x61]
  | .shown => [0x03, 0x72]
  | .late => [0x70]
  | .memory => [0x21, 0x22, 0x23, 0x72]

theorem Part.same_refl (p : Part) (s : State) : p.Same s s := by
  cases p <;> rfl

theorem Part.same_trans (p : Part) {s t u : State} (h1 : p.Same s t) (h2 : p.Same t u) : p.Same s u := by
  cases p <;> exact Eq.trans h2 h1

/-- A command with this opcode leaves the parts alone that it may not write. -/
def Framed (opc : Nat) (s t : State) : Prop := ∀ p : Part, opc ∉ p.writers → p.Same s t

theorem carried_framed (opc : Nat) : Carried (Framed opc) :=
  ⟨fun s p _ => p.same_refl s, fun _ _ _ h1 h2 p hp => p.same_trans (h1 p hp) (h2 p hp)⟩

/-- Updates of parts the command may write keep its frame. -/
theorem framed_of_touched {opc : Nat} {s t : State} (touched : List Part) (hmay : ∀ p ∈ touched, opc ∈ p.writers)
    (h : ∀ p, p ∉ touched → p.Same s t) : Framed opc s t :=
  fun p hp => h p fun hin => hp (hmay p hin)

section
variable {opc : Nat} {s : State}

/-- An update of the four registers every command may write. -/
theorem framed_status (m : Mode) (q : Seq) (f : FaultReg) (w : Word) :
    Framed opc s { s with mode := m, seq := q, fault := f, irqStatus := w } := fun p _ => p.same_refl s

theorem framed_chan (h : opc ∈ Part.channels.writers) (s : State) (p : Nat) (c : Chan) : Framed opc s (s.setChan p c) :=
  framed_of_touched [.channels] (by simpa using h) fun q hq => by
    cases q with
    | channels => simp at hq
    | _ => rfl

theorem framed_bytes (h : opc ∈ Part.memory.writers) (s : State) (a : Nat) (bs : List Byte) :
    Framed opc s (s.wrBytes .sequencer a bs) :=
  framed_of_touched [.memory] (by simpa using h) fun q hq => by
    have hlate := wrBytes_lateSamples s .sequencer (by decide) a bs
    cases q with
    | memory => simp at hq
    | late => exact hlate
    | _ =>
      rw [wrBytes_eq]
      rfl

theorem framed_bitmap (h : opc ∈ Part.bitmap.writers) (s : State) (i : Nat) : Framed opc s (s.bmpMark i) :=
  framed_of_touched [.bitmap] (by simpa using h) fun q hq => by
    cases q with
    | bitmap => simp at hq
    | _ => rfl

theorem framed_cursor (h : opc ∈ Part.cursor.writers) (s : State) (v : BitVec 11) : Framed opc s { s with bmpCursor := v } :=
  framed_of_touched [.cursor] (by simpa using h) fun q hq => by
    cases q with
    | cursor => simp at hq
    | _ => rfl

theorem framed_res0 (h : opc ∈ Part.res0.writers) (s : State) (v : Word) : Framed opc s { s with res0 := v } :=
  framed_of_touched [.res0] (by simpa using h) fun q hq => by
    cases q with
    | res0 => simp at hq
    | _ => rfl

theorem framed_res1 (h : opc ∈ Part.res1.writers) (s : State) (v : Word) : Framed opc s { s with res1 := v } :=
  framed_of_touched [.res1] (by simpa using h) fun q hq => by
    cases q with
    | res1 => simp at hq
    | _ => rfl

theorem framed_addRaw (h : opc ∈ Part.rawTable.writers) (h' : opc ∈ Part.rawCount.writers) (s : State) (r d p : Nat) :
    Framed opc s (s.addRaw r d p) :=
  framed_of_touched [.rawTable, .rawCount] (by simpa using ⟨h, h'⟩) fun q hq => by
    unfold State.addRaw
    split <;> (cases q with
      | rawTable | rawCount => simp at hq
      | _ => rfl)

theorem framed_addObj (h : opc ∈ Part.objTable.writers) (h' : opc ∈ Part.objCount.writers) (s : State) (o : ObjOut) :
    Framed opc s (s.addObj o).1 :=
  framed_of_touched [.objTable, .objCount] (by simpa using ⟨h, h'⟩) fun q hq => by
    unfold State.addObj
    split <;> (cases q with
      | objTable | objCount => simp at hq
      | _ => rfl)

theorem framed_noObjs (h : opc ∈ Part.objCount.writers) (s : State) : Framed opc s { s with numObjOut := 0 } :=
  framed_of_touched [.objCount] (by simpa using h) fun q hq => by
    cases q with
    | objCount => simp at hq
    | _ => rfl

theorem framed_setObj (h : opc ∈ Part.objTable.writers) (s : State) (i : Nat) (o : ObjOut) :
    Framed opc s { s with objOut := tabSet s.objOut i o } :=
  framed_of_touched [.objTable] (by simpa using h) fun q hq => by
    cases q with
    | objTable => simp at hq
    | _ => rfl

theorem framed_outDesc (h : opc ∈ Part.descTable.writers) (s : State) (v : Vector OutDesc 6) : Framed opc s { s with outDesc := v } :=
  framed_of_touched [.descTable] (by simpa using h) fun q hq => by
    cases q with
    | descTable => simp at hq
    | _ => rfl

theorem framed_latch (s : State) : Framed 0x01 s s.latch :=
  framed_of_touched
    [.config, .cursor, .counters, .chirpToken, .frameToken, .bitmap, .channels, .rawCount, .objCount, .descCount]
    (by simp [Part.writers]) fun q hq => by
      cases q with
      | config | cursor | counters | chirpToken | frameToken | bitmap | channels | rawCount | objCount | descCount => simp at hq
      | _ => rfl

theorem framed_beginRun (s : State) : Framed 0x02 s s.beginRun :=
  framed_of_touched [.counters, .chirpToken, .frameToken] (by simp [Part.writers]) fun q hq => by
    cases q with
    | counters | chirpToken | frameToken => simp at hq
    | _ => rfl

theorem framed_endRun (s : State) : Framed 0x03 s s.endRun :=
  framed_of_touched [.shown] (by simp [Part.writers]) fun q hq => by
    cases q with
    | shown => simp at hq
    | _ => rfl

theorem framed_dropToken (s : State) : Framed 0x03 s { s with chirpToken := false } :=
  framed_of_touched [.chirpToken] (by simp [Part.writers]) fun q hq => by
    cases q with
    | chirpToken => simp at hq
    | _ => rfl

theorem framed_bmpClear (s : State) : Framed 0x10 s s.bmpClear :=
  framed_of_touched [.bitmap, .cursor] (by simp [Part.writers]) fun q hq => by
    cases q with
    | bitmap | cursor => simp at hq
    | _ => rfl

theorem framed_generate (s : State) (table : WinTable) (kind : WinKind) (len gen : Nat) (w : Word) :
    Framed 0x20 s (s.generate table kind len gen w) :=
  framed_of_touched [.windows] (by simp [Part.writers]) fun q hq => by
    cases table <;> (cases q with
      | windows => simp at hq
      | _ => rfl)

theorem framed_chirp (s : State) : Framed 0x70 s { s with chirpToken := true, lateSamples := [] } :=
  framed_of_touched [.chirpToken, .late] (by simp [Part.writers]) fun q hq => by
    cases q with
    | chirpToken | late => simp at hq
    | _ => rfl

theorem framed_frame (s : State) : Framed 0x71 s { s with frameToken := true, before := s.tables } :=
  framed_of_touched [.frameToken, .before] (by simp [Part.writers]) fun q hq => by
    cases q with
    | frameToken | before => simp at hq
    | _ => rfl

theorem framed_publish (s : State) (k : Nat) : Framed 0x72 s (s.publish k) :=
  framed_of_touched [.descCount, .shown] (by simp [Part.writers]) fun q hq => by
    cases q with
    | descCount | shown => simp at hq
    | _ => rfl

theorem framed_drop (s : State) : Framed 0x72 s s.drop :=
  framed_of_touched [.descTable, .descCount, .shown] (by simp [Part.writers]) fun q hq => by
    cases q with
    | descTable | descCount | shown => simp at hq
    | _ => rfl

end

/-! ## Every command keeps its frame -/

theorem framed_bodyOf (i : Instr) : Carries (Framed i.opcode) (bodyOf i) := by
  have h := carried_framed i.opcode
  have hmode (m : Mode) (s : State) : Framed i.opcode s { s with mode := m } := framed_status m s.seq s.fault s.irqStatus
  cases i with
  | nop => exact carries_thenDone h (carries_pure h ())
  | cfgCommit =>
    exact carries_thenDone h (carries_cfgCommitBody h (framed_chan (by decide)) framed_latch (hmode _))
  | runStart =>
    exact carries_thenDone h (carries_runStartBody h (framed_chan (by decide)) framed_beginRun (hmode _))
  | runStop => exact carries_runStopBody h (framed_chan (by decide)) framed_endRun framed_dropToken
  | bmpReset => exact carries_thenDone h (carries_modify framed_bmpClear)
  | bmpSet k => exact carries_thenDone h (carries_bmpSetBody h (framed_bitmap (opc := 0x11) (by decide)) k)
  | bmpTest k => exact carries_thenDone h (carries_bmpTestBody h (framed_res0 (opc := 0x12) (by decide)) k)
  | bmpNext => exact carries_thenDone h (carries_bmpNextBody h (framed_cursor (by decide)) (framed_res0 (by decide)))
  | winGen table kind => exact carries_thenDone h (carries_winGenBody h kind fun s => framed_generate s table kind)
  | fft1d => exact carries_thenDone h (carries_fft1dBody h (framed_bytes (by decide)))
  | fft2d => exact carries_thenDone h (carries_fft2dBody h (framed_bytes (by decide)))
  | fft3d => exact carries_thenDone h (carries_fft3dBody h (framed_bytes (by decide)))
  | dmaCfg p a b c d => exact carries_thenDone h (carries_dmaCfgBody h (framed_chan (opc := 0x30) (by decide)) p a b c d)
  | dmaStart p => exact carries_thenDone h (carries_dmaStart h (framed_chan (opc := 0x31) (by decide)) p)
  | dmaRetrig p => exact carries_thenDone h (carries_dmaRetrigBody h (framed_chan (opc := 0x32) (by decide)) p)
  | dmaWait p => exact carries_awaitThen h (framed_chan (opc := 0x33) (by decide)) p _ (carries_pure h _)
  | cfarDop => exact carries_thenDone h (carries_cfarDopBody h (framed_bitmap (by decide)) (framed_res0 (by decide)))
  | cfarRng d =>
    exact carries_thenDone h (carries_cfarRngBody h (framed_addRaw (opc := 0x41) (by decide) (by decide))
      (framed_res0 (opc := 0x41) (by decide)) (framed_res1 (opc := 0x41) (by decide)) d)
  | pkgrpRun =>
    exact carries_thenDone h (carries_pkgrpBody h (framed_noObjs (by decide)) (framed_addObj (by decide) (by decide))
      (framed_res0 (by decide)))
  | angleObj k =>
    exact carries_angleRun h (framed_setObj (opc := 0x60) (by decide)) (framed_addObj (opc := 0x60) (by decide) (by decide))
      (framed_chan (opc := 0x60) (by decide)) k _ fun _ =>
        carries_bind h (carries_setRes0 (framed_res0 (opc := 0x60) (by decide)) _) fun _ => carries_pure h _
  | xyEst r =>
    exact carries_thenDone h (carries_xyEstBody h (framed_res0 (opc := 0x61) (by decide)) (framed_res1 (opc := 0x61) (by decide)) r)
  | chirpProc =>
    refine carries_bind h (carries_get h) fun s => ?_
    cases s.chirpFault with
    | none => exact carries_bind h (carries_modify framed_chirp) fun _ => carries_pure h _
    | some f => exact carries_raise h _ _
  | frameProc =>
    exact carries_bind h (carries_get h) fun _ => carries_bind h (carries_require h _ _ _) fun _ =>
      carries_bind h (carries_modify framed_frame) fun _ => carries_pure h _
  | outAsm =>
    exact carries_thenDone h (carries_assembleOutput h (framed_outDesc (by decide)) (framed_bytes (by decide)) framed_drop
      fun s k _ => framed_publish s k)

theorem framed_exec {i : Instr} {s t : State} (h : exec i s = .next t) : Framed i.opcode s t :=
  exec_related (carried_framed i.opcode) (framed_bodyOf i) (fun s _ p _ => p.same_refl s) (fun s p _ => p.same_refl s)
    (fun s _ p _ => p.same_refl s) h

/-! ## The bytes a command may store -/

/-- Outside the ranges, each a base and a size, memory and the record of races are as before. -/
def OnlyIn (ranges : List (Nat × Nat)) (s t : State) : Prop :=
  ∀ a, (∀ r ∈ ranges, a < r.1 ∨ r.1 + r.2 ≤ a) → byteAt t a = byteAt s a ∧ ∀ p, (p, a) ∈ t.raced ↔ (p, a) ∈ s.raced

theorem carried_onlyIn (ranges : List (Nat × Nat)) : Carried (OnlyIn ranges) :=
  ⟨fun _ _ _ => ⟨rfl, fun _ => Iff.rfl⟩, fun _ _ _ h1 h2 a ha =>
    ⟨(h2 a ha).1.trans (h1 a ha).1, fun p => ((h2 a ha).2 p).trans ((h1 a ha).2 p)⟩⟩

theorem onlyIn_of_memory {ranges : List (Nat × Nat)} {s t : State} (hmem : t.mem = s.mem) (hraced : t.raced = s.raced) :
    OnlyIn ranges s t := fun a _ => by
  rw [byteAt, byteAt, hmem, hraced]
  exact ⟨rfl, fun _ => Iff.rfl⟩

theorem onlyIn_wrByte (s : State) (who : Agent) (a : Nat) (b : Byte) : OnlyIn [(a, 1)] s (s.wrByte who a b) := by
  intro x hx
  have hne : x ≠ a := by
    have := hx (a, 1) List.mem_cons_self
    omega
  refine ⟨by simp [byteAt, State.wrByte, memory_get_set, hne], fun p => ?_⟩
  simp [State.wrByte, hne.symm]

/-- A stored block within one of the ranges. -/
theorem onlyIn_wrBytes {ranges : List (Nat × Nat)} {r : Nat × Nat} (hr : r ∈ ranges) (s : State) {a : Nat} {bs : List Byte}
    (hlo : r.1 ≤ a) (hhi : a + bs.length ≤ r.1 + r.2) : OnlyIn ranges s (s.wrBytes .sequencer a bs) := by
  induction bs generalizing s a with
  | nil => exact (carried_onlyIn ranges).refl s
  | cons b bs ih =>
    rw [List.length_cons] at hhi
    have hbyte : OnlyIn ranges s (s.wrByte .sequencer a b) := fun x hx =>
      onlyIn_wrByte s .sequencer a b x fun q hq => by
        have := hx r hr
        rw [List.mem_singleton] at hq
        subst hq
        dsimp only
        omega
    exact (carried_onlyIn ranges).trans _ _ _ hbyte (ih _ (by omega) (by omega))

section
variable {ranges : List (Nat × Nat)} {r : Nat × Nat} (hr : r ∈ ranges)
include hr

/-- Elements written one above the other within one of the ranges. -/
theorem onlyIn_writeEach {α : Type} {f : Nat → α → Seqr Unit} {size : Nat} (xs : List α)
    (hf : ∀ k x, Carries (OnlyIn [(r.1 + size * k, size)]) (f k x)) (hfit : size * xs.length ≤ r.2) :
    Carries (OnlyIn ranges) (writeEach f 0 xs) := by
  refine carries_writeEach_at (carried_onlyIn ranges) xs 0 fun k x hk u a ha => ?_
  have hend := Access.element_fits (size := size) hk
  refine hf (0 + k) x u a fun q hq => ?_
  have := ha r hr
  rw [List.mem_singleton] at hq
  subst hq
  dsimp only
  rw [Nat.zero_add]
  omega

end

theorem onlyIn_memWrite (addr n v : Nat) : Carries (OnlyIn [(addr, n)]) (memWrite addr n v) :=
  carries_memWrite_at (carried_onlyIn _) (fun u bs hlen => onlyIn_wrBytes List.mem_cons_self u le_rfl (by dsimp only; omega)) v
    (length_leBytes n v)

theorem onlyIn_wrU16 (addr v : Nat) : Carries (OnlyIn [(addr, 2)]) (wrU16 addr v) :=
  carries_bind (carried_onlyIn _) (carries_aligned (carried_onlyIn _) _ _) fun _ => onlyIn_memWrite _ _ _

theorem onlyIn_wrC16 (addr : Nat) (z : Cx) : Carries (OnlyIn [(addr, 4)]) (wrC16 addr z) :=
  carries_bind (carried_onlyIn _) (carries_aligned (carried_onlyIn _) _ _) fun _ => onlyIn_memWrite _ _ _

theorem onlyIn_wrC32 (addr : Nat) (z : Cx) : Carries (OnlyIn [(addr, 8)]) (wrC32 addr z) :=
  carries_bind (carried_onlyIn _) (carries_aligned (carried_onlyIn _) _ _) fun _ => onlyIn_memWrite _ _ _

/-- The body of a command decides what it stores. -/
theorem onlyIn_exec {i : Instr} {body : Seqr Unit} {ranges : List (Nat × Nat)} {s t : State} (hi : bodyOf i = thenDone body)
    (h : OnlyIn ranges s (endState (body s))) (ht : exec i s = .next t) : OnlyIn ranges s t := by
  have hc := carried_onlyIn ranges
  rcases exec_cases i s with ⟨-, heq⟩ | ⟨-, heq⟩ <;> rw [heq] at ht <;> obtain rfl := Host.Outcome.next.inj ht
  · rw [hi, settle_thenDone]
    split <;> rename_i hres <;> rw [hres] at h
    · exact hc.trans _ _ _ h (onlyIn_of_memory rfl rfl)
    · exact hc.trans _ _ _ h (onlyIn_of_memory rfl rfl)
  · exact onlyIn_of_memory rfl rfl

theorem length_fft16_le {n : Nat} (hn : 1 ≤ n) (x : List Cx) : (fft16 n x).length ≤ n := by
  rw [fft16_eq, length_transform]
  exact two_pow_log2_le hn

theorem length_fft32_le {n : Nat} (hn : 1 ≤ n) (x : List Cx) : (fft32 n x).length ≤ n := by
  rw [fft32_eq, length_transform]
  exact two_pow_log2_le hn

theorem onlyIn_fft1d (s : State) (hn : 1 ≤ s.nr) : OnlyIn [((s.operand 1).toNat, 4 * s.nr)] s (endState (fft1dBody s)) := by
  have h := carried_onlyIn [((s.operand 1).toNat, 4 * s.nr)]
  have hbody : fft1dBody s = (require s.winOk1D .cfgWindow 0 >>= fun _ => readC16s (s.operand 0).toNat s.ns >>= fun x =>
    writeC16s (s.operand 1).toNat (s.rangeFft x)) s := rfl
  rw [hbody]
  exact carries_bind h (carries_require h _ _ _) (fun _ => carries_bind h (carries_readC16s h _ _) fun x =>
    onlyIn_writeEach List.mem_cons_self _ (fun _ _ => onlyIn_wrC16 _ _) (Nat.mul_le_mul_left 4 (length_fft16_le hn _))) s

theorem onlyIn_fft2d (s : State) (hn : 1 ≤ s.nd) : OnlyIn [((s.operand 1).toNat, 8 * s.nd)] s (endState (fft2dBody s)) := by
  have h := carried_onlyIn [((s.operand 1).toNat, 8 * s.nd)]
  have hbody : fft2dBody s = (require s.winOk2D .cfgWindow 1 >>= fun _ => readC16s (s.operand 0).toNat s.nd >>= fun x =>
    writeC32s (s.operand 1).toNat (s.dopplerFft x)) s := rfl
  rw [hbody]
  exact carries_bind h (carries_require h _ _ _) (fun _ => carries_bind h (carries_readC16s h _ _) fun x =>
    onlyIn_writeEach List.mem_cons_self _ (fun _ _ => onlyIn_wrC32 _ _) (Nat.mul_le_mul_left 8 (length_fft32_le hn _))) s

theorem onlyIn_fft3d (s : State) : OnlyIn [((s.operand 1).toNat, 512)] s (endState (fft3dBody s)) := by
  have h := carried_onlyIn [((s.operand 1).toNat, 512)]
  have hbody : fft3dBody s = (readC32s (s.operand 0).toNat Config.numAngleBins >>= fun x =>
    writeC32s (s.operand 1).toNat (azimuthFft x)) s := rfl
  rw [hbody]
  exact carries_bind h (carries_readC32s h _ _) (fun x => onlyIn_writeEach List.mem_cons_self _ (fun _ _ => onlyIn_wrC32 _ _)
    (Nat.mul_le_mul_left 8 (length_fft32_le (by decide) _))) s

/-- The payload buffers (R331 to R333). -/
def payloads (s : State) : List (Nat × Nat) := [14, 15, 16, 17].map fun k => (s.buf k, bufferSize s.act k)

theorem mem_payloads {s : State} {k : Nat} (hk : k ∈ [14, 15, 16, 17]) : (s.buf k, bufferSize s.act k) ∈ payloads s :=
  List.mem_map_of_mem hk

theorem length_objFields_le (s : State) : s.objFields.length ≤ 602 := by
  have hsum (l : List ObjOut) : (l.flatMap fun o =>
      [o.range.toNat, o.doppler.toNat, o.peak.toNat, o.x.toNat, o.y.toNat, o.z.toNat]).length = 6 * l.length := by
    induction l with
    | nil => rfl
    | cons o l ih => rw [List.flatMap_cons, List.length_append, ih, List.length_cons (as := l), Nat.mul_succ, Nat.add_comm]; rfl
  rw [State.objFields, List.length_append, hsum, List.length_take]
  simp only [List.length_cons, List.length_nil, Vector.length_toList]
  omega

theorem onlyIn_copyRangeProfile (s : State) (rs : List Nat) (h : ∀ r ∈ rs, r < s.nr) :
    Carries (OnlyIn (payloads s)) (copyRangeProfile s rs) := by
  have hc := carried_onlyIn (payloads s)
  induction rs with
  | nil => exact carries_pure hc _
  | cons r rs ih =>
    have hfit := Access.element_fits (size := 2) (h r List.mem_cons_self)
    refine carries_bind hc (carries_rdU16 hc _) fun v => carries_bind hc (fun u a ha => ?_) fun _ =>
      ih fun q hq => h q (List.mem_cons_of_mem r hq)
    refine onlyIn_wrU16 _ _ u a fun q hq => ?_
    have hout := ha _ (mem_payloads (k := 14) (by decide))
    have hsize : bufferSize s.act 14 = 2 * s.nr := rfl
    rw [List.mem_singleton] at hq
    subst hq
    dsimp only at hout ⊢
    omega

theorem onlyIn_outAsm (s : State) : OnlyIn (payloads s) s (endState (assembleOutput s)) := by
  have hc := carried_onlyIn (payloads s)
  refine carries_assembleOutput_of hc (fun _ _ => onlyIn_of_memory rfl rfl) (fun _ => onlyIn_of_memory rfl rfl)
    (fun _ _ _ => onlyIn_of_memory rfl rfl) ?_ (onlyIn_copyRangeProfile s _ fun r hr => List.mem_range.mp hr) ?_ ?_
  · exact onlyIn_writeEach (mem_payloads (k := 16) (by decide)) _ (fun _ _ => onlyIn_wrU16 _ _)
      (show 2 * s.objFields.length ≤ 1204 by have := length_objFields_le s; omega)
  · exact carries_bind hc (carries_readEach hc (fun _ => carries_rdU16 hc _) _) fun x =>
      onlyIn_writeEach (mem_payloads (k := 15) (by decide)) _ (fun _ _ => onlyIn_wrU16 _ _) (by simp [bufferSize, sizes, listGet, State.nr])
  · exact onlyIn_writeEach (mem_payloads (k := 17) (by decide)) _ (fun _ _ => onlyIn_memWrite _ _ _) (le_refl 32)

theorem eq_cfgCommit_iff (i : Instr) : i = .cfgCommit ↔ i.opcode = 0x01 := by
  cases i <;> simp [Instr.opcode]

/-- Settles O16: the frame part by part, and the stored bytes of the four commands that store any. -/
theorem commandsWriteOnlyTheirState : Obligations.CommandsWriteOnlyTheirState := by
  intro i s t h
  have hf := framed_exec h
  have hhost := hf .host (by simp [Part.writers])
  simp only [Part.Same, Prod.mk.injEq] at hhost
  obtain ⟨h1, h2, h3, h4, h5, h6, h7, h8, h9, h10, h11, h12, h13, h14⟩ := hhost
  have halone {n : Nat} (hi : i.opcode ≠ n) : i.opcode ∉ [n] := mt List.mem_singleton.mp hi
  refine ⟨h1, h2, h3, h4, h5, h6, h7, h8, h9, h10, h11, h12, h13, h14, fun hi => hf .before (halone hi), fun hi => ?_,
    fun hi => ?_, hf .chirpToken, hf .frameToken, hf .bitmap, fun hi => ?_, hf .channels, fun hi => ?_, hf .rawCount,
    fun hi => ?_, hf .objCount, fun hi => ?_, hf .descCount, hf .res0, hf .res1, hf .shown,
    fun hi => hf .late (halone hi), fun hi => ?_, ?_⟩
  · have hconfig := hf .config (halone (mt (eq_cfgCommit_iff i).mpr hi))
    simp only [Part.Same, Prod.mk.injEq] at hconfig
    obtain ⟨hact, hsum, hant, hchirps⟩ := hconfig
    refine ⟨hact, hsum, hant, hchirps, ?_⟩
    split
    · rfl
    · next hno =>
      refine hf .cursor ?_
      cases i <;> simp_all [Instr.opcode, Part.writers]
  · simpa only [Part.Same, Prod.mk.injEq] using hf .counters hi
  · simpa only [Part.Same, Prod.mk.injEq] using hf .windows (halone hi)
  · simpa only [Part.Same, Prod.mk.injEq] using hf .rawTable (halone hi)
  · simpa only [Part.Same, Prod.mk.injEq] using hf .objTable hi
  · simpa only [Part.Same, Prod.mk.injEq] using hf .descTable (halone hi)
  · simpa only [Part.Same, Prod.mk.injEq] using hf .memory hi
  · exact ⟨fun hi hn => onlyIn_exec (hi ▸ rfl) (onlyIn_fft1d s hn) h, fun hi hn => onlyIn_exec (hi ▸ rfl) (onlyIn_fft2d s hn) h,
      fun hi => onlyIn_exec (hi ▸ rfl) (onlyIn_fft3d s) h, fun hi => onlyIn_exec (hi ▸ rfl) (onlyIn_outAsm s) h⟩

end Sys2Proof.Proofs.Frames
end

section
/-! SUPPORT. The detector's two commands: CFAR.DOP marks the bitmap (R255), CFAR.RNG appends to the raw list (R256, R257). -/

namespace Sys2Proof.Proofs.Detector

open Sys2Proof.Machine Sys2Proof.Claim Sys2Proof.Proofs.Bitmap Sys2Proof.Proofs.Control Sys2Proof.Proofs.Cfar Sys2Proof.Proofs.Access
  Sys2Proof.Proofs.ModuloChain

set_option Elab.async false

/-! ## Blocks of unsigned words -/

theorem readU16s_eq (src n : Nat) : readU16s src n = readBlock 2 2 id src n := by
  rw [readU16s, rdU16_eq, readBlock]

theorem readU16s_ok {s : State} {src n : Nat} (h : Readable s src (2 * n) 2) : readU16s src n s = .ok (u16sAt s src n) s := by
  rw [readU16s_eq, readBlock_ok (by decide) (by decide) id h]
  rfl

theorem length_u16sAt (s : State) (a n : Nat) : (u16sAt s a n).length = n := by rw [u16sAt, List.length_map, List.length_range]

/-- A vector has no detection beyond its end. -/
theorem cfar_lt {c : CfarCfg} {x : List Nat} {i : Nat} (h : i ∈ cfar c x) : i < x.length := (mem_cfar.mp h).1

/-! ## Marking the bitmap -/

theorem bmpMarkAll_eq (s : State) (l : List Nat) : s.bmpMarkAll l = { s with bmpWord := (s.bmpMarkAll l).bmpWord } := by
  induction l generalizing s with
  | nil => rfl
  | cons i l ih =>
    rw [State.bmpMarkAll, ih]
    rfl

theorem bmpBit_bmpMarkAll (s : State) {l : List Nat} (hl : ∀ i ∈ l, i < 1024) (j : Nat) :
    (s.bmpMarkAll l).bmpBit j = (s.bmpBit j || decide (j ∈ l)) := by
  induction l generalizing s with
  | nil => simp [State.bmpMarkAll]
  | cons i l ih =>
    rw [State.bmpMarkAll, ih _ fun k hk => hl k (List.mem_cons_of_mem i hk), bmpBit_bmpMark s (hl i List.mem_cons_self), Bool.or_assoc]
    simp only [List.mem_cons, Bool.decide_or]

theorem cfarDopBody_eq (s : State) : cfarDopBody s = (readBlock 2 2 id (s.operand 0).toNat s.nd >>= fun x =>
    modify (fun t => t.bmpMarkAll (cfar s.act.cfarDop x)) >>= fun _ => setRes0 (cfar s.act.cfarDop x).length) s := by
  rw [← readU16s_eq]
  rfl

/-- Settles O41: a block read, its detections marked and counted. -/
theorem cfarDopMarksTheDetections : Obligations.CfarDopMarksTheDetections := by
  intro s hm hnd hnd' src found
  have hadm : admitted .cfarDop s.mode = true := by rw [hm]; rfl
  refine ⟨fun hal => exec_faulted (f := ⟨.memAlign, src⟩) rfl hadm ?_, fun hal j hout =>
    exec_faulted (f := ⟨.memBounds, src + 2 * j⟩) rfl hadm ?_, fun hread => ?_⟩
  · rw [cfarDopBody_eq, seqr_bind, readBlock_misaligned id hnd hal]
    rfl
  · rw [cfarDopBody_eq, seqr_bind, readBlock_outside (by decide) id hal hout]
    rfl
  · have hbody : cfarDopBody s = .ok () { s.bmpMarkAll found with res0 := BitVec.ofNat 32 found.length } := by
      rw [cfarDopBody_eq, seqr_bind, ← readU16s_eq, readU16s_ok hread]
      rfl
    have hin (i : Nat) (hi : i ∈ found) : i < 1024 := by
      have := cfar_lt hi
      rw [length_u16sAt] at this
      omega
    refine ⟨_, exec_done rfl hadm hbody, ?_, bmpBit_bmpMarkAll s hin⟩
    rw [bmpMarkAll_eq]

/-! ## Appending to the raw list -/

/-- `t` is `s` with the detections `found` of the line `x` at Doppler bin `d` appended as far as there is room, and the rest counted. -/
structure Appended (s t : State) (d : Nat) (x found : List Nat) : Prop where
  frame : t = { s with
    rawObj := t.rawObj
    numRawObj := s.numRawObj + BitVec.ofNat 32 (min found.length (200 - s.numRawObj.toNat))
    rawTruncCount := s.rawTruncCount + BitVec.ofNat 32 (found.length - min found.length (200 - s.numRawObj.toNat)) }
  new : ∀ j, j < min found.length (200 - s.numRawObj.toNat) → tabGet t.rawObj (s.numRawObj.toNat + j) default
    = ⟨BitVec.ofNat 16 (listGet found j 0), BitVec.ofNat 16 d, BitVec.ofNat 16 (listGet x (listGet found j 0) 0)⟩
  old : ∀ j, j < s.numRawObj.toNat ∨ s.numRawObj.toNat + min found.length (200 - s.numRawObj.toNat) ≤ j →
    tabGet t.rawObj j default = tabGet s.rawObj j default

theorem addRaw_of_room {s : State} (h : s.numRawObj.toNat < 200) (r d p : Nat) : s.addRaw r d p =
    { s with
      rawObj := tabSet s.rawObj s.numRawObj.toNat ⟨BitVec.ofNat 16 r, BitVec.ofNat 16 d, BitVec.ofNat 16 p⟩
      numRawObj := s.numRawObj + 1 } := if_pos h

theorem addRaw_of_full {s : State} (h : ¬ s.numRawObj.toNat < 200) (r d p : Nat) :
    s.addRaw r d p = { s with rawTruncCount := s.rawTruncCount + 1 } := if_neg h

theorem ofNat_succ (n : Nat) (w : Word) : w + 1 + BitVec.ofNat 32 n = w + BitVec.ofNat 32 (n + 1) := by
  rw [BitVec.add_assoc, Nat.add_comm n 1, BitVec.ofNat_add]
  rfl

/-- The detections of a line, one by one (R256, R257). -/
theorem appended_addRaws (s : State) (d : Nat) (x found : List Nat) (hn : s.numRawObj.toNat ≤ 200) :
    Appended s (s.addRaws d x found) d x found := by
  induction found generalizing s with
  | nil =>
    rw [State.addRaws]
    refine ⟨?_, fun j hj => absurd hj (by simp), fun _ _ => rfl⟩
    simp
  | cons i found ih =>
    rw [State.addRaws]
    by_cases hroom : s.numRawObj.toNat < 200
    · rw [addRaw_of_room hroom]
      obtain ⟨hframe, hnew, hold⟩ := ih
        { s with
          rawObj := tabSet s.rawObj s.numRawObj.toNat ⟨BitVec.ofNat 16 i, BitVec.ofNat 16 d, BitVec.ofNat 16 (listGet x i 0)⟩
          numRawObj := s.numRawObj + 1 } (by dsimp only; bv_omega)
      have hcount : (s.numRawObj + 1).toNat = s.numRawObj.toNat + 1 := by bv_omega
      have hkept : min (i :: found).length (200 - s.numRawObj.toNat) = min found.length (200 - (s.numRawObj.toNat + 1)) + 1 := by
        rw [List.length_cons]
        omega
      dsimp only at hframe hnew hold
      rw [hcount] at hframe hnew hold
      refine ⟨?_, fun j hj => ?_, fun j hj => ?_⟩
      · rw [hkept, List.length_cons, Nat.add_sub_add_right, ← ofNat_succ]
        exact hframe
      · rw [hkept] at hj
        cases j with
        | zero =>
          rw [Nat.add_zero, hold _ (.inl (by omega)), tabGet_tabSet, if_pos ⟨rfl, hroom⟩]
          rfl
        | succ j =>
          rw [show s.numRawObj.toNat + (j + 1) = s.numRawObj.toNat + 1 + j by omega, hnew j (by omega)]
          rfl
      · rw [hkept] at hj
        rw [hold j (by omega), tabGet_tabSet, if_neg (by omega)]
    · rw [addRaw_of_full hroom]
      obtain ⟨hframe, hnew, hold⟩ := ih { s with rawTruncCount := s.rawTruncCount + 1 } hn
      have hkept (l : List Nat) : min l.length (200 - s.numRawObj.toNat) = 0 := by omega
      dsimp only at hframe hnew hold
      rw [hkept] at hframe hnew hold
      refine ⟨?_, fun j hj => absurd hj (by rw [hkept]; exact Nat.not_lt_zero j), fun j hj => hold j (by rw [hkept] at hj; exact hj)⟩
      rw [hkept, List.length_cons, Nat.sub_zero, ← ofNat_succ]
      exact hframe

section
variable {s : State} {src d : Nat}

theorem cfarRngLine_badIndex (h : s.nd ≤ d) : cfarRngLine src d s = .error ⟨.badIndex, d⟩ s := by
  rw [cfarRngLine, seqr_bind, seqr_get, thenWith_ok, decide_eq_false (not_lt.mpr h)]
  rfl

theorem cfarRngLine_eq (h : d < s.nd) : cfarRngLine src d s = (readBlock 2 2 id src s.nr >>= fun x =>
    modify (fun t => t.addRaws d x (cfar s.act.cfarRng x)) >>= fun _ =>
      pure (min (cfar s.act.cfarRng x).length (200 - s.numRawObj.toNat),
        (cfar s.act.cfarRng x).length - min (cfar s.act.cfarRng x).length (200 - s.numRawObj.toNat))) s := by
  rw [cfarRngLine, seqr_bind, seqr_get, thenWith_ok, decide_eq_true h, ← readU16s_eq]
  rfl

theorem cfarRngLine_misaligned (h : d < s.nd) (hn : 1 ≤ s.nr) (hal : src % 2 ≠ 0) :
    cfarRngLine src d s = .error ⟨.memAlign, src⟩ s := by
  rw [cfarRngLine_eq h, seqr_bind, readBlock_misaligned id hn hal]
  rfl

theorem cfarRngLine_outside {j : Nat} (h : d < s.nd) (hal : src % 2 = 0) (hout : FirstOutside s false src 2 s.nr j) :
    cfarRngLine src d s = .error ⟨.memBounds, src + 2 * j⟩ s := by
  rw [cfarRngLine_eq h, seqr_bind, readBlock_outside (by decide) id hal hout]
  rfl

/-- The body of CFAR.RNG on a line it can read. -/
theorem cfarRngLine_ok (h : d < s.nd) (hread : Readable s src (2 * s.nr) 2) :
    let x := u16sAt s src s.nr
    let found := cfar s.act.cfarRng x
    let kept := min found.length (200 - s.numRawObj.toNat)
    cfarRngLine src d s = .ok (kept, found.length - kept) (s.addRaws d x found) := by
  intro x found kept
  rw [cfarRngLine_eq h, seqr_bind, ← readU16s_eq, readU16s_ok hread]
  rfl

end

theorem cfarRngBody_eq (d : Nat) (s : State) :
    cfarRngBody d s = (cfarRngLine (s.operand 0).toNat d >>= fun r => setRes0 r.1 >>= fun _ => setRes1 r.2) s := rfl

/-- Settles O42: the line read, its detections appended one by one, both numbers in the result registers. -/
theorem cfarRngAppendsCandidates : Obligations.CfarRngAppendsCandidates := by
  intro s d hm hn hnr src x found kept
  have hadm : admitted (.cfarRng d) s.mode = true := by rw [hm]; rfl
  refine ⟨fun hd => exec_faulted (f := ⟨.badIndex, d⟩) rfl hadm ?_, fun hd hal => exec_faulted (f := ⟨.memAlign, src⟩) rfl hadm ?_,
    fun hd hal j hout => exec_faulted (f := ⟨.memBounds, src + 2 * j⟩) rfl hadm ?_, fun hd hread => ?_⟩
  · rw [cfarRngBody_eq, seqr_bind, cfarRngLine_badIndex hd]
    rfl
  · rw [cfarRngBody_eq, seqr_bind, cfarRngLine_misaligned hd hnr hal]
    rfl
  · rw [cfarRngBody_eq, seqr_bind, cfarRngLine_outside hd hal hout]
    rfl
  · have hbody : cfarRngBody d s = .ok () { s.addRaws d x found with
        res0 := BitVec.ofNat 32 kept, res1 := BitVec.ofNat 32 (found.length - kept) } := by
      rw [cfarRngBody_eq, seqr_bind, cfarRngLine_ok hd hread]
      rfl
    obtain ⟨hframe, hnew, hold⟩ := appended_addRaws s d x found hn
    refine ⟨_, exec_done rfl hadm hbody, ?_, hnew, hold⟩
    rw [hframe]

end Sys2Proof.Proofs.Detector
end

section
/-! SUPPORT. The azimuth stage: coordinates (R299, R300), main lobe and second peak (R301, R302), XY.EST (R297) and ANGLE.OBJ (R291 to
R296). -/

namespace Sys2Proof.Proofs.Angle

open Sys2Proof.Machine Sys2Proof.Claim Sys2Proof.Proofs.Nop Sys2Proof.Proofs.Steps Sys2Proof.Proofs.Control Sys2Proof.Proofs.Peak
  Sys2Proof.Proofs.Arithmetic Sys2Proof.Proofs.Engine Sys2Proof.Proofs.Roots Sys2Proof.Proofs.Access Sys2Proof.Proofs.Transform
  Sys2Proof.Proofs.CommandPort

set_option Elab.async false

/-! ## Coordinates -/

theorem rndShr_of_pos (v : Int) {k : Nat} (hk : 0 < k) : rndShr v k = (v + 2 ^ (k - 1)) / 2 ^ k := if_neg (by omega)

theorem rangeQ_nonneg (c : XyCfg) (r : Nat) : 0 ≤ rangeQ c r := by
  rw [rangeQ, rndShr]
  split <;> positivity

theorem spatialFreq_bounds {k : Nat} (hk : k < 64) : -32 ≤ spatialFreq k ∧ spatialFreq k ≤ 31 := by
  simp only [spatialFreq, Config.numAngleBins]
  omega

/-- The cross range is a rounded share of the range, at most the whole of it (R299, R300). -/
theorem share_bounds {R f : Int} (hR : 0 ≤ R) (hlo : -32 ≤ f) (hhi : f ≤ 31) :
    -R ≤ (R * 2 * f + 32) / 64 ∧ (R * 2 * f + 32) / 64 ≤ R := by
  have hmin : R * -32 ≤ R * f := mul_le_mul_of_nonneg_left hlo hR
  have hmax : R * f ≤ R * 31 := mul_le_mul_of_nonneg_left hhi hR
  have hswap : R * 2 * f = 2 * (R * f) := by ring
  omega

/-- Settles O46: the formulas, the share of the range, and the root's two bounds. -/
theorem coordinatesOfABin : Obligations.CoordinatesOfABin := by
  intro c k r hk hq R x y
  obtain ⟨hlo, hhi⟩ := spatialFreq_bounds hk
  have hR : 0 ≤ R := rangeQ_nonneg c r
  have hrange : R = ((r : Int) * c.rangeRes + 2 ^ (19 - c.q)) / 2 ^ (20 - c.q) := by
    have hexp : 20 - c.q - 1 = 19 - c.q := by omega
    rw [← hexp]
    exact rndShr_of_pos _ (by omega)
  have hx : x = (R * 2 * spatialFreq k + 32) / 64 :=
    rndShr_of_pos (R * 2 * spatialFreq k) (k := 6) (by decide)
  obtain ⟨hxlo, hxhi⟩ := share_bounds hR hlo hhi
  rw [← hx] at hxlo hxhi
  have hsq : 0 ≤ R * R - x * x := by nlinarith
  have hy : y = (isqrt (R * R - x * x).toNat : Int) := rfl
  obtain ⟨hroot, hroot'⟩ := isqrt_spec (R * R - x * x).toNat
  have hcast : ((R * R - x * x).toNat : Int) = R * R - x * x := Int.toNat_of_nonneg hsq
  refine ⟨hrange, rfl, hx, hxlo, hxhi, by rw [hy]; positivity, ?_, ?_⟩
  · rw [← hcast, hy]
    exact_mod_cast hroot
  · rw [← hcast, hy]
    exact_mod_cast hroot'

/-! ## The main lobe -/

/-- The bin `i` steps of `dir` bins from `k`. -/
def binAt (k dir i : Nat) : Nat := (k + dir * i) % 64

/-- A walk of at most `fuel` steps goes exactly `n` far: down to there, and no further (R301). -/
structure Walked (P : List Nat) (dir k fuel n : Nat) : Prop where
  within : n ≤ fuel
  down : ∀ i, i < n → listGet P (binAt k dir (i + 1)) 0 < listGet P (binAt k dir i) 0
  stop : n = fuel ∨ listGet P (binAt k dir n) 0 ≤ listGet P (binAt k dir (n + 1)) 0

theorem Walked.unique {P : List Nat} {dir k fuel m n : Nat} (hm : Walked P dir k fuel m) (hn : Walked P dir k fuel n) : m = n := by
  have hle {a b : Nat} (ha : Walked P dir k fuel a) (hb : Walked P dir k fuel b) : a ≤ b := by
    by_contra hlt
    rcases hb.stop with hend | hstop
    · exact hlt (hend ▸ ha.within)
    · exact absurd (ha.down b (by omega)) (not_lt.mpr hstop)
  exact le_antisymm (hle hm hn) (hle hn hm)

theorem binAt_succ (k dir i : Nat) : binAt k dir (i + 1) = binAt ((k + dir) % 64) dir i := by
  have hsum : k + dir * (i + 1) = k + dir + dir * i := by ring
  rw [binAt, binAt, hsum, Nat.mod_add_mod]

theorem exists_walked (P : List Nat) (dir fuel : Nat) {k : Nat} (hk : k < 64) :
    ∃ n, Walked P dir k fuel n ∧ walk P dir fuel k = (binAt k dir n, fuel - n) := by
  have hstart {k : Nat} (hk : k < 64) : binAt k dir 0 = k := by rw [binAt, Nat.mul_zero, Nat.add_zero, Nat.mod_eq_of_lt hk]
  induction fuel generalizing k with
  | zero => exact ⟨0, ⟨le_rfl, fun _ h => absurd h (Nat.not_lt_zero _), .inl rfl⟩, by rw [hstart hk]; rfl⟩
  | succ fuel ih =>
    have hnext : (k + dir) % 64 < 64 := Nat.mod_lt _ (by decide)
    by_cases hdown : listGet P ((k + dir) % 64) 0 < listGet P k 0
    · obtain ⟨n, ⟨hwithin, hrest, hstop⟩, hwalk⟩ := ih hnext
      refine ⟨n + 1, ⟨by omega, fun i hi => ?_, ?_⟩, ?_⟩
      · cases i with
        | zero => rwa [binAt_succ, hstart hnext, hstart hk]
        | succ i =>
          rw [binAt_succ k dir (i + 1), binAt_succ k dir i]
          exact hrest i (by omega)
      · rw [binAt_succ, binAt_succ]
        exact hstop.imp (congrArg Nat.succ) id
      · rw [binAt_succ, ← Nat.add_sub_add_right fuel 1 n] at *
        exact (if_pos hdown).trans hwalk
    · refine ⟨0, ⟨Nat.zero_le _, fun _ h => absurd h (Nat.not_lt_zero _), .inr ?_⟩, ?_⟩
      · rw [binAt_succ, hstart hnext, hstart hk]
        exact not_lt.mp hdown
      · rw [hstart hk]
        exact if_neg hdown

theorem walk_of_walked {P : List Nat} {dir fuel k n : Nat} (hk : k < 64) (h : Walked P dir k fuel n) :
    walk P dir fuel k = (binAt k dir n, fuel - n) := by
  obtain ⟨m, hm, hwalk⟩ := exists_walked P dir fuel hk
  rw [hwalk, hm.unique h]

theorem binAt_one (k i : Nat) : binAt k 1 i = (k + i) % 64 := by rw [binAt, Nat.one_mul]

/-- A step of 63 bins to the right is one to the left. -/
theorem binAt_left {k i : Nat} (hi : i ≤ 64) : binAt k 63 i = (k + 64 - i) % 64 := by
  simp only [binAt]
  omega

/-- R301's two walks are walks of the model. -/
theorem lobeOf_iff {P : List Nat} {k a b : Nat} : LobeOf P k a b ↔ Walked P 63 k 63 a ∧ Walked P 1 k (63 - a) b := by
  constructor
  · intro ⟨hsum, hleft, hleftEnd, hright, hrightEnd⟩
    refine ⟨⟨by omega, fun i hi => ?_, ?_⟩, ⟨by omega, fun i hi => ?_, ?_⟩⟩
    · rw [binAt_left (by omega), binAt_left (by omega)]
      exact hleft i hi
    · rw [binAt_left (by omega), binAt_left (by omega)]
      exact hleftEnd
    · rw [binAt_one, binAt_one]
      exact hright i hi
    · rw [binAt_one, binAt_one]
      exact hrightEnd.imp (by omega) id
  · intro ⟨⟨hwithin, hleft, hleftEnd⟩, ⟨hwithin', hright, hrightEnd⟩⟩
    refine ⟨by omega, fun i hi => ?_, ?_, fun i hi => ?_, ?_⟩
    · have hstep := hleft i hi
      rwa [binAt_left (by omega), binAt_left (by omega)] at hstep
    · rwa [binAt_left (by omega), binAt_left (by omega)] at hleftEnd
    · have hstep := hright i hi
      rwa [binAt_one, binAt_one] at hstep
    · rw [binAt_one, binAt_one] at hrightEnd
      exact hrightEnd.imp (by omega) id

theorem exists_lobeOf (P : List Nat) {k : Nat} (hk : k < 64) : ∃ a b, LobeOf P k a b := by
  obtain ⟨a, ha, -⟩ := exists_walked P 63 63 hk
  obtain ⟨b, hb, -⟩ := exists_walked P 1 (63 - a) hk
  exact ⟨a, b, lobeOf_iff.mpr ⟨ha, hb⟩⟩

theorem mainLobe_eq {P : List Nat} {k a b : Nat} (hk : k < 64) (h : LobeOf P k a b) :
    mainLobe P k = ((k + 64 - a) % 64, (k + b) % 64, a + b) := by
  obtain ⟨ha, hb⟩ := lobeOf_iff.mp h
  have hwithin := ha.within
  have hwithin' := hb.within
  have hleft := walk_of_walked hk ha
  have hright := walk_of_walked hk hb
  have hlobe : mainLobe P k = ((walk P 63 63 k).1, (walk P 1 (walk P 63 63 k).2 k).1, 63 - (walk P 1 (walk P 63 63 k).2 k).2) := rfl
  rw [hlobe, hleft, hright, binAt_left (by omega), binAt_one]
  congr 2
  omega

/-! ## The second peak -/

/-- The scan over renumbered bins is the scan over their numbers. -/
theorem bestOf_map {P P' : List Nat} {bin : Nat → Nat} {n : Nat} (hP : ∀ j, j < n → listGet P (bin j) 0 = listGet P' j 0)
    {best : Nat} (hbest : best < n) {l : List Nat} (hl : ∀ j ∈ l, j < n) : bestOf P (bin best) (l.map bin) = bin (bestOf P' best l) := by
  induction l generalizing best with
  | nil => rfl
  | cons j l ih =>
    have hj := hl j List.mem_cons_self
    have hrest := fun i hi => hl i (List.mem_cons_of_mem j hi)
    rw [List.map_cons, bestOf, bestOf, hP best hbest, hP j hj]
    split
    · exact ih hj hrest
    · exact ih hbest hrest

/-- The first greatest of all is the first peak (R298). -/
theorem firstPeak_of_greatest {P : List Nat} {j : Nat} (hj : j < P.length) (hle : ∀ i, i < P.length → listGet P i 0 ≤ listGet P j 0)
    (hlt : ∀ i, i < j → listGet P i 0 < listGet P j 0) : firstPeak P = j := by
  have hpos : firstPeak P < P.length := firstPeak_lt_length (by omega)
  rcases Nat.lt_trichotomy (firstPeak P) j with h | h | h
  · exact absurd (hlt _ h) (not_lt.mpr (le_firstPeak hj))
  · exact h
  · exact absurd (lt_firstPeak hj h) (not_lt.mpr (hle _ hpos))

section
variable {c : XyCfg} {P : List Nat} {k a b : Nat} (hk : k < 64) (h : LobeOf P k a b)
include hk h

theorem secondPeak_none (hnone : c.enable = false ∨ 63 - (a + b) = 0) : secondPeak c P k = none := by
  have hskip : (c.enable && decide (0 < 63 - (a + b))) = false := by
    rcases hnone with hoff | hempty
    · rw [hoff, Bool.false_and]
    · rw [hempty]
      exact Bool.and_false _
  rw [secondPeak, mainLobe_eq hk h]
  simp only [Config.numAngleBins, hskip, Bool.false_eq_true, if_false]

theorem secondPeak_eq {j : Nat} (hon : c.enable = true) (hj : j < 63 - (a + b))
    (hle : ∀ i, i < 63 - (a + b) → listGet P ((k + b + 1 + i) % 64) 0 ≤ listGet P ((k + b + 1 + j) % 64) 0)
    (hlt : ∀ i, i < j → listGet P ((k + b + 1 + i) % 64) 0 < listGet P ((k + b + 1 + j) % 64) 0) :
    secondPeak c P k = if c.thresh * listGet P k 0 < listGet P ((k + b + 1 + j) % 64) 0 * 2 ^ 15
      then some ((k + b + 1 + j) % 64) else none := by
  have hscan : bestOf P (((k + b) % 64 + 1) % 64) ((List.range (63 - (a + b))).map fun j => ((k + b) % 64 + 1 + j) % 64)
      = (k + b + 1 + j) % 64 := by
    have hbin (i : Nat) : ((k + b) % 64 + 1 + i) % 64 = (k + b + 1 + i) % 64 := by omega
    have hbin0 : ((k + b) % 64 + 1) % 64 = (k + b + 1 + 0) % 64 := by omega
    have hget {i : Nat} (hi : i < 63 - (a + b)) := listGet_map_range (fun i => listGet P ((k + b + 1 + i) % 64) 0) hi 0
    simp only [hbin, hbin0]
    rw [bestOf_map (bin := fun i => (k + b + 1 + i) % 64) (n := 63 - (a + b)) (fun i hi => (hget hi).symm) (Nat.zero_lt_of_lt hj)
      fun i hi => List.mem_range.mp hi]
    have hpeak := firstPeak_of_greatest (P := (List.range (63 - (a + b))).map fun i => listGet P ((k + b + 1 + i) % 64) 0)
      (j := j) (by simpa using hj) (fun i hi => ?_) (fun i hi => ?_)
    · rw [firstPeak, List.length_map, List.length_range] at hpeak
      rw [hpeak]
    · rw [List.length_map, List.length_range] at hi
      rw [hget hi, hget hj]
      exact hle i hi
    · rw [hget (by omega), hget hj]
      exact hlt i hi
  have hsearch : (c.enable && decide (0 < 63 - (a + b))) = true := by
    rw [hon, decide_eq_true (by omega)]
    rfl
  rw [secondPeak, mainLobe_eq hk h]
  simp only [Config.numAngleBins, hsearch, if_true]
  rw [hscan]
  rfl

end

/-! ## XY.EST -/

theorem toNat_ofInt_eq_lowBits (v : Int) : (BitVec.ofInt 16 v).toNat = lowBits 16 v := by
  rw [BitVec.toNat_ofInt, lowBits]
  rfl

/-- A pair of halves in a word. -/
theorem ofNat_halves (a b : Half) : BitVec.ofNat 32 (a.toNat + 2 ^ 16 * b.toNat) = (b.zeroExtend 32 <<< 16) ||| a.zeroExtend 32 := by
  have hor : b.toNat <<< 16 ||| a.toNat = 2 ^ 16 * b.toNat + a.toNat := by
    rw [Nat.shiftLeft_eq, Nat.mul_comm, Nat.two_pow_add_eq_or_of_lt a.isLt]
  refine BitVec.eq_of_toNat_eq ?_
  have ha := a.isLt
  have hb := b.isLt
  simp only [BitVec.toNat_or, BitVec.toNat_shiftLeft, BitVec.toNat_setWidth, BitVec.toNat_ofNat]
  rw [Nat.mod_eq_of_lt (show a.toNat < 2 ^ 32 by omega), Nat.mod_eq_of_lt (show b.toNat < 2 ^ 32 by omega),
    Nat.mod_eq_of_lt (show b.toNat <<< 16 < 2 ^ 32 by rw [Nat.shiftLeft_eq]; omega), hor]
  omega

theorem ofNat_packXy (xy : Int × Int) : BitVec.ofNat 32 (packXy xy)
    = ((BitVec.ofInt 16 (sat16 xy.2)).zeroExtend 32 <<< 16) ||| (BitVec.ofInt 16 (sat16 xy.1)).zeroExtend 32 := by
  rw [← ofNat_halves, toNat_ofInt_eq_lowBits, toNat_ofInt_eq_lowBits]
  rfl

theorem ofNat_packSecond_some (xy : Int × Int) :
    BitVec.ofNat 32 (packSecond (some xy)) = 0x80000000 ||| BitVec.ofNat 32 (packXy xy) := by
  refine BitVec.eq_of_toNat_eq ?_
  simp only [packSecond, BitVec.toNat_ofNat, BitVec.toNat_or, Nat.or_mod_two_pow]
  rfl

theorem rdU64_eq : rdU64 = elemRead 8 8 id := by
  funext addr
  simp only [rdU64, elemRead, id, bind_pure]

theorem xyEstBody_eq (r : Nat) (s : State) : xyEstBody r s = (require (decide (r < s.nr)) .badIndex r >>= fun _ =>
    readBlock 8 8 id (s.operand 0).toNat 64 >>= fun P => setRes0 (packXy (xyEst s.xyCfg P r).1) >>= fun _ =>
      setRes1 (packSecond (xyEst s.xyCfg P r).2)) s := by
  rw [readBlock, ← rdU64_eq]
  rfl

/-- Settles O47: the command by its block, the estimate by its two walks and the scan outside the lobe. -/
theorem xyEstPacksTheEstimate : Obligations.XyEstPacksTheEstimate := by
  refine ⟨?_, ?_⟩
  · intro s r hm src pack
    have hadm : admitted (.xyEst r) s.mode = true := by rw [hm]; rfl
    have hreq (hr : r < s.nr) (u : State) : require (decide (r < s.nr)) .badIndex r u = .ok () u := by rw [decide_eq_true hr]; rfl
    refine ⟨fun hr => exec_faulted (f := ⟨.badIndex, r⟩) rfl hadm ?_, fun hr hal => exec_faulted (f := ⟨.memAlign, src⟩) rfl hadm ?_,
      fun hr hal j hout => exec_faulted (f := ⟨.memBounds, src + 8 * j⟩) rfl hadm ?_, fun hr hread => exec_done rfl hadm ?_⟩
    · rw [xyEstBody_eq, decide_eq_false (not_lt.mpr hr)]
      rfl
    · rw [xyEstBody_eq, seqr_bind, hreq hr, thenWith_ok, seqr_bind, readBlock_misaligned id (by decide) hal]
      rfl
    · rw [xyEstBody_eq, seqr_bind, hreq hr, thenWith_ok, seqr_bind, readBlock_outside (by decide) id hal hout]
      rfl
    · have hbits (e : Option (Int × Int)) : BitVec.ofNat 32 (packSecond e) = match e with
          | none => 0
          | some xy => 0x80000000 ||| pack xy := by
        cases e with
        | none => rfl
        | some xy => rw [ofNat_packSecond_some, ofNat_packXy]
      rw [xyEstBody_eq, seqr_bind, hreq hr, thenWith_ok, seqr_bind, readBlock_ok (by decide) (by decide) id hread]
      rw [thenWith_ok, seqr_bind, setRes0, seqr_modify, thenWith_ok, setRes1, seqr_modify, ofNat_packXy, hbits]
      rfl
  · intro c P r hlen k1
    have hk : k1 < 64 := (firstPeak_lt_length (by omega)).trans_eq hlen
    refine ⟨exists_lobeOf P hk, ?_⟩
    intro a b hlobe n bin
    refine ⟨mainLobe_eq hk hlobe, fun hnone => ?_, fun hon j hj hle hlt => ?_⟩
    · have hsecond := secondPeak_none (c := c) hk hlobe hnone
      simp only [xyEst]
      rw [hsecond]
      rfl
    · have hsecond := secondPeak_eq (c := c) hk hlobe hon hj hle hlt
      simp only [xyEst]
      rw [hsecond, apply_ite (Option.map _)]
      rfl

/-! ## ANGLE.OBJ -/

theorem dft1Sum_eq (nd d c : Nat) (y : List Cx) :
    let w (i : Nat) : Cx := tw32 nd (i * d % nd)
    dft1Sum nd d c y = ⟨∑ i ∈ Finset.range y.length, ((listGet y i Cx.zero).re * (w (c + i)).re - (listGet y i Cx.zero).im * (w (c + i)).im),
      ∑ i ∈ Finset.range y.length, ((listGet y i Cx.zero).re * (w (c + i)).im + (listGet y i Cx.zero).im * (w (c + i)).re)⟩ := by
  intro w
  induction y generalizing c with
  | nil => rfl
  | cons z y ih =>
    rw [dft1Sum, ih, List.length_cons, Finset.sum_range_succ', Finset.sum_range_succ']
    simp only [listGet, List.getD_cons_succ, List.getD_cons_zero, Nat.add_zero, Nat.add_assoc, Nat.add_comm 1]
    refine cx_ext ?_ ?_
    · exact Int.add_comm _ _
    · exact Int.add_comm _ _

/-- `DFT1` over a row (R182). -/
theorem dft1_eq {s : State} {x : List Cx} (hx : x.length = s.nd) (d : Nat) : s.dft1 x d = singleBin s x d := by
  rw [State.dft1, Machine.dft1, mapPos_win32, dft1Sum_eq, length_windowed, hx, sat32_eq, sat32_eq, rndShr_eq, rndShr_eq]
  simp only [Nat.zero_add]
  rfl

/-- The compensation's twiddle: `d - Nd` and `d + Nd` are the same modulo `2 * Nd` (R293). -/
theorem phaseComp_eq (nd d : Nat) (z : Cx) : phaseComp nd d z = compensated nd d z := by
  have htw : tw32 (2 * nd) (signedBin nd d % (2 * nd : Nat)).toNat = tw32 (2 * nd) (if d < nd / 2 then d else d + nd) := by
    rw [signedBin]
    split
    · next h => rw [← Int.natCast_emod, Int.toNat_natCast, tw32, tw32, ← twiddle_mod]
    · have hcast : ((d : Int) - nd) % (2 * nd : Nat) = ((d + nd) % (2 * nd) : Nat) := by
        rw [Int.natCast_emod, ← Int.add_emod_right]
        congr 1
        push_cast
        ring
      rw [hcast, Int.toNat_natCast, tw32, tw32, ← twiddle_mod]
  simp only [phaseComp, compensated, cmulQ31, htw, cmul_eq, sat32_eq]

section
variable {s : State}

/-- The row of one antenna out of the fetched rows. -/
theorem readC16s_row {dst rows n v : Nat} (h : Readable s dst (4 * rows * n) 4) (hv : v < rows) :
    readC16s (dst + 4 * (v * n)) n s = .ok (c16sAt s (dst + 4 * (v * n)) n) s := by
  obtain ⟨hal, hin, hmay⟩ := h
  rw [readC16s_eq]
  refine readEach_ok _ _ _ _ fun i hi => elemRead_ok (cxOf 16) ?_
  have hi : i < n := List.mem_range.mp hi
  have hfit : 4 * (v * n + i) + 4 ≤ 4 * rows * n := by
    rw [Nat.mul_assoc]
    refine element_fits ?_
    calc v * n + i < v * n + n := Nat.add_lt_add_left hi _
      _ = (v + 1) * n := (Nat.succ_mul v n).symm
      _ ≤ rows * n := Nat.mul_le_mul_right n hv
  have hplace : dst + 4 * (v * n) + 4 * i = dst + 4 * (v * n + i) := by ring
  rw [hplace]
  exact ⟨mul_mod_zero (by decide) hal, admits_part hin (by decide) hfit, mayRead_part hmay hfit⟩

theorem antennaValue_ok {v : Nat} (h : Readable s (s.buf 12) (4 * s.nv * s.nd) 4) (hv : v < s.nv) (d : Nat) :
    antennaValue d v s = .ok (antennaOf s d v) s := by
  rw [antennaValue, seqr_bind, seqr_get, thenWith_ok, seqr_bind, readC16s_row h hv, thenWith_ok, seqr_pure,
    dft1_eq (by simp [c16sAt]), phaseComp_eq]
  rfl

/-- The object and, for a second peak, the extra one (R291, R296), before `RES[0]`. -/
theorem withEstimate_eq (s : State) (i : Nat) (est : (Int × Int) × Option (Int × Int)) :
    withEstimate s i est = { (s.placeXy i est).1 with res0 := BitVec.ofNat 32 (s.placeXy i est).2 } := by
  obtain ⟨first, second⟩ := est
  cases second with
  | none => rfl
  | some xy =>
    by_cases hroom : s.numObjOut.toNat < 100
    · simp only [withEstimate, State.placeXy, State.addObj, Config.maxObjOut, hroom, if_true]
      rfl
    · simp only [withEstimate, State.placeXy, State.addObj, Config.maxObjOut, hroom, if_false]
      rfl

/-- The estimate of the fetched rows (R291). -/
theorem angleFetched_ok (i : Nat) (h : Readable s (s.buf 12) (4 * s.nv * s.nd) 4) :
    let o := tabGet s.objOut i default
    let est := xyEst (estimateCfg s) (azimuthSpectrum s o.doppler.toNat) o.range.toNat
    angleFetched i s = .ok (s.placeXy i est).2 (s.placeXy i est).1 := by
  intro o est
  have hrows := readEach_ok (antennaValue o.doppler.toNat) (antennaOf s o.doppler.toNat) (List.range s.nv) s fun v hv =>
    antennaValue_ok h (List.mem_range.mp hv) _
  rw [angleFetched, seqr_bind, seqr_get, thenWith_ok, seqr_bind, hrows, thenWith_ok, azimuthFft_eq, zeroPad, List.length_map,
    List.length_range]
  rfl

/-- The body's checks and its ways on (R291, R295), whatever follows. -/
theorem angleRun_badIndex {i : Nat} (q : Pos) (k : Nat → Seqr Flow) (h : s.numObjOut.toNat ≤ i) :
    angleRun i q k s = .error ⟨.badIndex, i⟩ s := by
  rw [angleRun, seqr_bind, seqr_get, thenWith_ok, decide_eq_false (not_lt.mpr h)]
  rfl

theorem angleRun_single {i : Nat} (q : Pos) (k : Nat → Seqr Flow) (h : i < s.numObjOut.toNat) (hnv : s.nv = 1) :
    let est := ((0, rangeQ (estimateCfg s) (tabGet s.objOut i default).range.toNat), none)
    angleRun i q k s = k 0 (s.placeXy i est).1 := by
  intro est
  rw [angleRun, seqr_bind, seqr_get, thenWith_ok, decide_eq_true h]
  simp only [hnv, if_true]
  rfl

theorem angleRun_noWindow {i : Nat} (q : Pos) (k : Nat → Seqr Flow) (h : i < s.numObjOut.toNat) (hnv : s.nv ≠ 1)
    (hwin : s.winOk2D = false) : angleRun i q k s = .error ⟨.cfgWindow, 1⟩ s := by
  rw [angleRun, seqr_bind, seqr_get, thenWith_ok, decide_eq_true h]
  simp only [hnv, if_false, hwin]
  rfl

theorem angleRun_eq {i : Nat} (q : Pos) (k : Nat → Seqr Flow) (h : i < s.numObjOut.toNat) (hnv : s.nv ≠ 1)
    (hwin : s.winOk2D = true) : angleRun i q k s = (programPipeline [10] >>= fun _ =>
      dmaRetrig 10 (cubeCell s 0 (tabGet s.objOut i default).range.toNat 0) (s.buf 12) >>= fun _ =>
        awaitThen 10 q (angleFetched i >>= k)) s := by
  rw [angleRun, seqr_bind, seqr_get, thenWith_ok, decide_eq_true h]
  simp only [hnv, if_false, hwin]
  rfl

theorem angleRun_notIdle {i : Nat} (q : Pos) (k : Nat → Seqr Flow) (h : i < s.numObjOut.toNat) (hnv : s.nv ≠ 1)
    (hwin : s.winOk2D = true) (hx : (s.chan 10).xfer ≠ .idle) : angleRun i q k s = .error ⟨.dmaProtocol, 10⟩ s := by
  have hleast : s.leastChan (fun c => !c.xfer.isIdle) [10] = some 10 := by
    simp [State.leastChan, Dma.isIdle_eq_false hx]
  rw [angleRun_eq q k h hnv hwin, seqr_bind, programPipeline_eq, hleast]
  rfl

/-- Channel 10 programmed for one range bin and started (R215, R291). -/
theorem angleRun_fetch {i : Nat} (q : Pos) (k : Nat → Seqr Flow) (h : i < s.numObjOut.toNat) (hnv : s.nv ≠ 1)
    (hwin : s.winOk2D = true) (hx : (s.chan 10).xfer = .idle) : angleRun i q k s = .ok (.wait 10 q)
      (s.setChan 10 (restarted (pipeline s.act 10)
        (BitVec.ofNat 32 (cubeCell s 0 (tabGet s.objOut i default).range.toNat 0)) (BitVec.ofNat 32 (s.buf 12)))) := by
  have hleast : s.leastChan (fun c => !c.xfer.isIdle) [10] = none := by
    simp [State.leastChan, hx, Xfer.isIdle]
  have hprogram : s.program [10] = s.setChan 10 (pipeline s.act 10) := rfl
  have hchan (c : Chan) : (s.setChan 10 c).chan 10 = c := by rw [chan_setChan s 10 10 c (by decide), if_pos rfl]
  rw [angleRun_eq q k h hnv hwin, seqr_bind, programPipeline_eq, hleast, thenWith_ok, hprogram, seqr_bind,
    dmaRetrig_ok _ _ (by decide) (by rw [hchan]; rfl) (by rw [hchan]; rfl), thenWith_ok, hchan, setChan_setChan,
    awaitThen_wait 10 q _ _ (by decide) (by rw [hchan]; rfl)]

end

theorem exec_angleObj {s : State} (hm : s.mode = .configured) (i : Nat) :
    exec (.angleObj i) s = .next (settle (angleRun i (.angle i) angleDone) s) := by
  rw [exec_eq, command_admitted (by rw [hm]; rfl)]
  rfl

/-- Settles O48: the body's five ways on, and the rows' estimate after the wait. -/
theorem angleObjWritesTheEstimate : Obligations.AngleObjWritesTheEstimate := by
  intro s i
  refine ⟨?_, ?_⟩
  · intro hm o
    rw [exec_angleObj hm]
    refine ⟨fun hi => ?_, fun hi hnv => ?_, fun hi hnv hwin => ?_, fun hi hnv hwin hx => ?_, fun hi hnv hwin hx => ?_⟩
    · rw [settle, angleRun_badIndex _ _ hi]
      exact congrArg Host.Outcome.next (fatal_eq_faulted s _)
    · rw [settle, angleRun_single _ _ hi hnv, withEstimate_eq]
      rfl
    · rw [settle, angleRun_noWindow _ _ hi hnv hwin]
      exact congrArg Host.Outcome.next (fatal_eq_faulted s _)
    · rw [settle, angleRun_notIdle _ _ hi hnv hwin hx]
      exact congrArg Host.Outcome.next (fatal_eq_faulted s _)
    · rw [settle, angleRun_fetch _ _ hi hnv hwin hx]
  · intro hseq hread o
    have hstep : seqStep s = .next (settle (angleFetched i >>= angleDone) s) := by
      rw [seqStep, hseq]
      rfl
    rw [hstep, settle, seqr_bind, angleFetched_ok i hread, withEstimate_eq]
    rfl

end Sys2Proof.Proofs.Angle
end

section
/-! SUPPORT. What the sequencer's bodies do not look at: the mode, `SEQ`, the operands, the result registers and `IRQ_STATUS`. A body
runs on a state with other values there as it runs without (R320: a sequence runs the bodies of commands in its own mode, its
operands its own). -/

namespace Sys2Proof.Proofs.Relabel

open Sys2Proof.Machine Sys2Proof.Claim Sys2Proof.Proofs.Carry

set_option Elab.async false

/-- Values for the registers that a body does not look at; `IRQ_STATUS` by what becomes of it. -/
structure Labels where
  mode : Mode
  seq : Seq
  arg : Vector Word 6
  argPast : Vector (List Word) 6
  res0 : Word
  res1 : Word
  irq : Word → Word

/-- The state with these values. -/
def Labels.on (l : Labels) (s : State) : State :=
  { s with mode := l.mode, seq := l.seq, arg := l.arg, argPast := l.argPast, res0 := l.res0, res1 := l.res1, irqStatus := l.irq s.irqStatus }

/-- The values a state has, its `IRQ_STATUS` fixed. -/
def labelsOf (s : State) : Labels := ⟨s.mode, s.seq, s.arg, s.argPast, s.res0, s.res1, fun _ => s.irqStatus⟩

theorem labelsOf_on (s : State) : (labelsOf s).on s = s := rfl

/-- An answer with its state changed. -/
def mapState {α : Type} (f : State → State) : EStateM.Result Fatal State α → EStateM.Result Fatal State α
  | .ok a t => .ok a (f t)
  | .error e t => .error e (f t)

/-- The body runs on the relabelled state as on the state itself. -/
def Blind {α : Type} (l : Labels) (m : Seqr α) : Prop := ∀ s, m (l.on s) = mapState l.on (m s)

section
variable {l : Labels} {α β : Type}

theorem blind_pure (a : α) : Blind l (pure a : Seqr α) := fun _ => rfl

theorem blind_raise (code : FaultCode) (info : Nat) : Blind l (raise code info : Seqr α) := fun _ => rfl

theorem blind_require (ok : Bool) (code : FaultCode) (info : Nat) : Blind l (require ok code info) := by
  cases ok
  · exact blind_raise code info
  · exact blind_pure ()

theorem blind_bind {m : Seqr α} {f : α → Seqr β} (hm : Blind l m) (hf : ∀ a, Blind l (f a)) : Blind l (m >>= f) := by
  intro s
  rw [seqr_bind, seqr_bind, hm s]
  cases m s with
  | ok a t => exact hf a t
  | error e t => rfl

/-- A body that reads the state, but nothing of the labels. -/
theorem blind_get {f : State → Seqr β} (hsame : ∀ s, f (l.on s) = f s) (hf : ∀ s, Blind l (f s)) : Blind l (get >>= f) := by
  intro s
  rw [seqr_bind, seqr_bind, seqr_get, seqr_get, thenWith_ok, thenWith_ok, hsame]
  exact hf s s

theorem blind_modify {f : State → State} (hf : ∀ s, f (l.on s) = l.on (f s)) : Blind l (modify f : Seqr Unit) := fun s => by
  rw [seqr_modify, hf]
  rfl

theorem blind_ite (c : Prop) [Decidable c] {m n : Seqr α} (hm : Blind l m) (hn : Blind l n) : Blind l (if c then m else n) := by
  split
  · exact hm
  · exact hn

theorem blind_readEach {f : Nat → Seqr α} (hf : ∀ i, Blind l (f i)) (is : List Nat) : Blind l (readEach f is) := by
  induction is with
  | nil => exact blind_pure _
  | cons i is ih => exact blind_bind (hf i) fun _ => blind_bind ih fun _ => blind_pure _

theorem blind_writeEach {f : Nat → α → Seqr Unit} (hf : ∀ i x, Blind l (f i x)) (xs : List α) (i : Nat) :
    Blind l (writeEach f i xs) := by
  induction xs generalizing i with
  | nil => exact blind_pure _
  | cons x xs ih => exact blind_bind (hf i x) fun _ => ih (i + 1)

end

section
variable {l : Labels}

/-! ## Memory -/

theorem wrBytes_on (l : Labels) (s : State) (a : Nat) (bs : List Byte) :
    (l.on s).wrBytes .sequencer a bs = l.on (s.wrBytes .sequencer a bs) := by
  induction bs generalizing s a with
  | nil => rfl
  | cons b bs ih => exact ih (s.wrByte .sequencer a b) (a + 1)

theorem blind_aligned (addr n : Nat) : Blind l (aligned addr n) := blind_require _ _ _

theorem blind_memRead (addr n : Nat) : Blind l (memRead addr n) :=
  blind_get (fun _ => rfl) fun _ => blind_bind (blind_require _ _ _) fun _ => blind_pure _

theorem blind_memWrite (addr n v : Nat) : Blind l (memWrite addr n v) :=
  blind_get (fun _ => rfl) fun _ => blind_bind (blind_require _ _ _) fun _ => blind_modify fun s => wrBytes_on l s _ _

theorem blind_rdU16 (addr : Nat) : Blind l (rdU16 addr) := blind_bind (blind_aligned _ _) fun _ => blind_memRead _ _

theorem blind_wrU16 (addr v : Nat) : Blind l (wrU16 addr v) := blind_bind (blind_aligned _ _) fun _ => blind_memWrite _ _ _

theorem blind_wrC32 (addr : Nat) (z : Cx) : Blind l (wrC32 addr z) := blind_bind (blind_aligned _ _) fun _ => blind_memWrite _ _ _

theorem blind_readC16s (src n : Nat) : Blind l (readC16s src n) :=
  blind_readEach (fun _ => blind_bind (blind_aligned _ _) fun _ => blind_bind (blind_memRead _ _) fun _ => blind_pure _) _

theorem blind_readU16s (src n : Nat) : Blind l (readU16s src n) := blind_readEach (fun _ => blind_rdU16 _) _

theorem blind_writeC16s (dst : Nat) (xs : List Cx) : Blind l (writeC16s dst xs) :=
  blind_writeEach (fun _ _ => blind_bind (blind_aligned _ _) fun _ => blind_memWrite _ _ _) _ _

/-! ## Channels -/

theorem blind_channelExists (p : Nat) : Blind l (channelExists p) := blind_require _ _ _

theorem blind_dmaStart (p : Nat) : Blind l (dmaStart p) :=
  blind_bind (blind_channelExists _) fun _ => blind_get (fun _ => rfl) fun _ => blind_bind (blind_require _ _ _) fun _ =>
    blind_bind (blind_require _ _ _) fun _ => blind_bind (blind_require _ _ _) fun _ => blind_modify fun _ => rfl

theorem blind_dmaRetrig (p src dst : Nat) : Blind l (dmaRetrig p src dst) :=
  blind_bind (blind_channelExists _) fun _ => blind_get (fun _ => rfl) fun _ => blind_bind (blind_require _ _ _) fun _ =>
    blind_bind (blind_require _ _ _) fun _ => blind_bind (blind_modify fun _ => rfl) fun _ => blind_dmaStart p

theorem blind_awaitThen (p : Nat) (q : Pos) {k : Seqr Flow} (hk : Blind l k) : Blind l (awaitThen p q k) :=
  blind_bind (blind_channelExists _) fun _ => blind_get (fun _ => rfl) fun _ =>
    blind_ite _ (blind_bind (blind_modify fun _ => rfl) fun _ => hk) (blind_pure _)

/-! ## Chirps -/

theorem dcAccumulate_on (tx rx : Nat) (X : List Cx) (bs : List Nat) (s : State) :
    (l.on s).dcAccumulate tx rx X bs = l.on (s.dcAccumulate tx rx X bs) := by
  induction bs generalizing s with
  | nil => rfl
  | cons b bs ih => exact ih (s.dcAdd (dcEntry tx rx b) (listGet X (s.dcRangeBin b) Cx.zero))

theorem dcCompensate_on (tx rx : Nat) (bs : List Nat) (X : List Cx) (s : State) :
    (l.on s).dcCompensate tx rx bs X = s.dcCompensate tx rx bs X := by
  induction bs generalizing X with
  | nil => rfl
  | cons b bs ih => exact ih _

theorem blind_dcStep (X : List Cx) (tx rx : Nat) (acc sub : Bool) : Blind l (dcStep X tx rx acc sub) := by
  refine blind_get (fun s => ?_) fun s =>
    blind_ite _ (blind_bind (blind_modify fun t => dcAccumulate_on tx rx X _ t) fun _ => blind_pure _)
      (blind_ite _ (blind_pure _) (blind_pure _))
  simp only [dcCompensate_on]
  rfl

theorem blind_chirpAntenna (rx : Nat) : Blind l (chirpAntenna rx) := by
  rw [chirpAntenna_eq]
  exact blind_get (fun _ => rfl) fun s => blind_bind (blind_ite _ (blind_dmaRetrig _ _ _) (blind_pure _)) fun _ =>
    blind_bind (blind_readC16s _ _) fun _ => blind_bind (blind_dcStep _ _ _ _ _) fun _ => blind_writeC16s _ _

/-! ## Detection, grouping, angle -/

theorem bmpMarkAll_on (is : List Nat) (s : State) : (l.on s).bmpMarkAll is = l.on (s.bmpMarkAll is) := by
  induction is generalizing s with
  | nil => rfl
  | cons i is ih => exact ih (s.bmpMark i)

theorem addRaw_on (r d p : Nat) (s : State) : (l.on s).addRaw r d p = l.on (s.addRaw r d p) := by
  simp only [State.addRaw]
  by_cases h : s.numRawObj.toNat < Config.maxRawObj
  · rw [if_pos h]
    exact if_pos h
  · rw [if_neg h]
    exact if_neg h

theorem addRaws_on (d : Nat) (x is : List Nat) (s : State) : (l.on s).addRaws d x is = l.on (s.addRaws d x is) := by
  induction is generalizing s with
  | nil => rfl
  | cons i is ih => rw [State.addRaws, addRaw_on, ih, State.addRaws]

theorem blind_cfarRngLine (src d : Nat) : Blind l (cfarRngLine src d) :=
  blind_get (fun _ => rfl) fun _ => blind_bind (blind_require _ _ _) fun _ => blind_bind (blind_readU16s _ _) fun _ =>
    blind_bind (blind_modify (addRaws_on _ _ _)) fun _ => blind_pure _

theorem blind_bmpAdvance : Blind l bmpAdvance := by
  refine blind_get (fun _ => rfl) fun s => ?_
  split
  · exact blind_raise _ _
  · exact blind_bind (blind_modify fun _ => rfl) fun _ => blind_pure _

theorem blind_nextLine (s : State) (j : Nat) : Blind l (nextLine s j) :=
  blind_ite _ (blind_bind blind_bmpAdvance fun _ => blind_bind (blind_dmaRetrig _ _ _) fun _ => blind_pure _) (blind_pure _)

theorem blind_lineItem (j : Nat) : Blind l (lineItem j) := by
  rw [lineItem_eq]
  exact blind_get (fun _ => rfl) fun _ => blind_bind (blind_nextLine _ _) fun _ => blind_bind (blind_cfarRngLine _ _) fun _ =>
    blind_modify fun _ => rfl

theorem addObj_on (o : ObjOut) (s : State) : (l.on s).addObj o = (l.on (s.addObj o).1, (s.addObj o).2) := by
  simp only [State.addObj]
  by_cases h : s.numObjOut.toNat < Config.maxObjOut
  · rw [if_pos h]
    exact if_pos h
  · rw [if_neg h]
    exact if_neg h

theorem blind_groupKernel (r d : Nat) (off : Int × Int) : Blind l (groupKernel r d off) :=
  blind_get (fun _ => rfl) fun _ => blind_ite _ (blind_pure _) (blind_ite _ (blind_pure _) (blind_rdU16 _))

theorem blind_groupKeeps (r d : Nat) (offs : List (Int × Int)) : Blind l (groupKeeps r d offs) := by
  induction offs with
  | nil => exact blind_pure _
  | cons off offs ih =>
    exact blind_bind (blind_groupKernel _ _ _) fun _ => blind_bind (blind_groupKernel _ _ _) fun _ => blind_bind ih fun _ =>
      blind_pure _

theorem blind_groupOne (o : RawObj) : Blind l (groupOne o) :=
  blind_get (fun _ => rfl) fun _ => blind_ite _ (blind_pure _) (blind_bind (blind_groupKeeps _ _ _) fun _ =>
    blind_ite _ (blind_modify fun s => congrArg Prod.fst (addObj_on _ s)) (blind_pure _))

theorem blind_groupAll (os : List RawObj) : Blind l (groupAll os) := by
  induction os with
  | nil => exact blind_pure _
  | cons o os ih => exact blind_bind (blind_groupOne o) fun _ => ih

theorem blind_groupRun : Blind l groupRun :=
  blind_bind (blind_modify fun _ => rfl) fun _ => blind_get (fun _ => rfl) fun _ => blind_groupAll _

/-- The object with its own estimate (R291). -/
def placedFirst (s : State) (i : Nat) (xy : Int × Int) : State :=
  { s with objOut := tabSet s.objOut i { tabGet s.objOut i default with x := coord xy.1, y := coord xy.2, z := 0 } }

/-- The extra object of a second peak (R296). -/
def secondObj (s : State) (i : Nat) (xy : Int × Int) : ObjOut :=
  let o := tabGet s.objOut i default
  ⟨o.range, o.doppler, o.peak, coord xy.1, coord xy.2, 0⟩

theorem placeXy_second (s : State) (i : Nat) (xy xy2 : Int × Int) : s.placeXy i (xy, some xy2)
    = (((placedFirst s i xy).addObj (secondObj s i xy2)).1, ((placedFirst s i xy).addObj (secondObj s i xy2)).2.toNat) := rfl

theorem placeXy_on (i : Nat) (est : (Int × Int) × Option (Int × Int)) (s : State) :
    (l.on s).placeXy i est = (l.on (s.placeXy i est).1, (s.placeXy i est).2) := by
  obtain ⟨xy, second⟩ := est
  cases second with
  | none => rfl
  | some xy2 =>
    have hfirst : placedFirst (l.on s) i xy = l.on (placedFirst s i xy) := rfl
    have hsecond : secondObj (l.on s) i xy2 = secondObj s i xy2 := rfl
    rw [placeXy_second, placeXy_second, hfirst, hsecond, addObj_on]

theorem blind_angleWrite (i : Nat) (est : (Int × Int) × Option (Int × Int)) : Blind l (angleWrite i est) := fun s => by
  change EStateM.Result.ok ((l.on s).placeXy i est).2 ((l.on s).placeXy i est).1 = _
  rw [placeXy_on]
  rfl

theorem blind_antennaValue (d v : Nat) : Blind l (antennaValue d v) :=
  blind_get (fun _ => rfl) fun _ => blind_bind (blind_readC16s _ _) fun _ => blind_pure _

theorem blind_angleFetched (i : Nat) : Blind l (angleFetched i) :=
  blind_get (fun _ => rfl) fun _ => blind_bind (blind_readEach (fun _ => blind_antennaValue _ _) _) fun _ => blind_angleWrite _ _

/-! ## The Doppler pass -/

theorem blind_dopItem (idx : Nat) : Blind l (dopItem idx) := by
  rw [dopItem_eq]
  exact blind_get (fun _ => rfl) fun _ => blind_bind (blind_ite _ (blind_dmaRetrig _ _ _) (blind_pure _)) fun _ =>
    blind_bind (blind_readC16s _ _) fun _ => blind_bind (blind_wrC32 _ _) fun _ => blind_modify fun _ => rfl

theorem blind_dopTail (r : Nat) : Blind l (dopTail r) :=
  blind_get (fun _ => rfl) fun _ => blind_bind (blind_writeEach (fun _ _ => blind_wrU16 _ _) _ _) fun _ =>
    blind_bind (blind_modify (bmpMarkAll_on _)) fun _ => blind_bind (blind_dmaRetrig _ _ _) fun _ => blind_modify fun _ => rfl

/-! ## Output -/

theorem blind_payload (sel : Bool) {work : Seqr Unit} (hwork : Blind l work) (d : OutDesc) (k : Nat) :
    Blind l (payload sel work d k) :=
  blind_ite _ (blind_bind hwork fun _ => blind_bind (blind_modify fun _ => rfl) fun _ => blind_pure _) (blind_pure _)

theorem blind_copyRangeProfile (s : State) (rs : List Nat) : Blind l (copyRangeProfile s rs) := by
  induction rs with
  | nil => exact blind_pure _
  | cons r rs ih => exact blind_bind (blind_rdU16 _) fun _ => blind_bind (blind_wrU16 _ _) fun _ => ih

theorem copyRangeProfile_on (s : State) (rs : List Nat) : copyRangeProfile (l.on s) rs = copyRangeProfile s rs := by
  induction rs with
  | nil => rfl
  | cons r rs ih =>
    rw [copyRangeProfile, ih, copyRangeProfile]
    rfl

/-- OUT.ASM raises interrupt bits, so `IRQ_STATUS` may be labelled only with what commutes with that. -/
theorem blind_assembleOutput (hirq : ∀ w b, l.irq (w ||| b) = l.irq w ||| b) : Blind l assembleOutput := by
  have hraise (s : State) (b : Nat) : (l.on s).raiseIrq b = l.on (s.raiseIrq b) := by
    simp only [State.raiseIrq, Labels.on, hirq]
  refine blind_get (fun s => ?_) fun s => blind_ite _ ?_ (blind_modify fun t => hraise { t with
    droppedFrames := t.droppedFrames + 1, numOutDesc := 0, window := { t.window with objs := true } } irqFrameDropped)
  · simp only [copyRangeProfile_on]
    rfl
  refine blind_bind (blind_payload _ (blind_writeEach (fun _ _ => blind_wrU16 _ _) _ _) _ _) fun _ =>
    blind_bind (blind_payload _ (blind_copyRangeProfile _ _) _ _) fun _ => blind_bind (blind_payload _ ?_ _ _) fun _ =>
      blind_bind (blind_payload _ (blind_pure _) _ _) fun _ => blind_bind (blind_payload _ (blind_pure _) _ _) fun _ =>
        blind_bind (blind_payload _ (blind_writeEach (fun _ _ => blind_memWrite _ _ _) _ _) _ _) fun k =>
          blind_modify fun t => hraise { t with numOutDesc := BitVec.ofNat 32 k, window := t.published } irqFrameDone
  exact blind_bind (blind_readEach (fun _ => blind_rdU16 _) _) fun _ => blind_writeEach (fun _ _ => blind_wrU16 _ _) _ _

/-! ## What blindness leaves unchanged -/

/-- A body blind to every label changes none. -/
theorem labels_of_blind {α : Type} {m : Seqr α} (h : ∀ l, Blind l m) (s : State) :
    endState (m s) = (labelsOf s).on (endState (m s)) := by
  have hrun := congrArg endState (h (labelsOf s) s)
  rw [labelsOf_on] at hrun
  refine hrun.trans ?_
  cases m s <;> rfl

/-- A step at a position settles the same wherever the sequencer stood. -/
theorem settle_seq {m : Seqr Flow} (h : ∀ l, Blind l m) (s : State) (q : Seq) : settle m { s with seq := q } = settle m s := by
  have hrun := h ⟨s.mode, q, s.arg, s.argPast, s.res0, s.res1, id⟩ s
  change m { s with seq := q } = _ at hrun
  have hlabels := labels_of_blind h s
  rw [settle, settle, hrun]
  cases hm : m s with
  | error e t =>
    rw [hm] at hlabels
    change t = _ at hlabels
    rw [hlabels]
    rfl
  | ok f t =>
    rw [hm] at hlabels
    change t = _ at hlabels
    rw [hlabels]
    cases f with
    | finish byCmd => cases byCmd <;> rfl
    | pos q => rfl
    | wait p q => rfl

end

end Sys2Proof.Proofs.Relabel
end

section
/-! SUPPORT. The DC-signature calibration (R234, R235, R238). -/

namespace Sys2Proof.Proofs.Calibration

open Sys2Proof.Machine Sys2Proof.Claim Sys2Proof.Proofs.Bitmap Sys2Proof.Proofs.Arithmetic Sys2Proof.Proofs.Engine
  Sys2Proof.Proofs.Transform

set_option Elab.async false

/-! ## The window's bins -/

theorem dcEntry_eq (tx rx b : Nat) : dcEntry tx rx b = (tx * 4 + rx) * 32 + b := rfl

theorem dcBins_eq (s : State) : s.dcBins = binsOf s := rfl

/-- The window of a legal configuration (R133 check 11). -/
theorem binsOf_le {s : State} (hcheck : CheckHolds s.act 11) (hon : s.act.dcEnable = true) : binsOf s ≤ 32 ∧ binsOf s ≤ s.nr := by
  obtain ⟨-, -, -, -, hmax, hfits⟩ := hcheck hon
  have hnr : s.nr = s.act.numRange.toNat := rfl
  simp only [binsOf]
  omega

/-- Two bins of the window are two range bins: they are less than a turn apart. -/
theorem binOf_injective {s : State} (hnr : binsOf s ≤ s.nr) {b c : Nat} (hb : b < binsOf s) (hc : c < binsOf s)
    (h : binOf s b = binOf s c) : b = c := by
  have hpos : 0 < (s.nr : Int) := by omega
  have hmod : (s.act.dcNeg.toInt + (b : Int)) % s.nr = (s.act.dcNeg.toInt + (c : Int)) % s.nr := by
    have hb0 := Int.emod_nonneg (s.act.dcNeg.toInt + (b : Int)) hpos.ne'
    have hc0 := Int.emod_nonneg (s.act.dcNeg.toInt + (c : Int)) hpos.ne'
    simp only [binOf] at h
    omega
  have hdiff : (s.nr : Int) ∣ (b : Int) - c := by
    have h := Int.emod_eq_emod_iff_emod_sub_eq_zero.mp hmod
    rw [add_sub_add_left_eq_sub] at h
    exact Int.dvd_of_emod_eq_zero h
  by_contra hne
  have hle := Int.le_of_dvd (a := s.nr) (b := |(b : Int) - c|) (by
    rw [abs_pos]
    omega) ((dvd_abs _ _).mpr hdiff)
  rw [le_abs] at hle
  omega

theorem binOf_lt {s : State} (hnr : 1 ≤ s.nr) (b : Nat) : binOf s b < s.nr := by
  have hpos : 0 < (s.nr : Int) := by omega
  have hlt := Int.emod_lt_of_pos (s.act.dcNeg.toInt + (b : Int)) hpos
  have hnonneg := Int.emod_nonneg (s.act.dcNeg.toInt + (b : Int)) hpos.ne'
  simp only [binOf]
  omega

/-! ## Accumulating -/

theorem dcAccumulate_frame (s : State) (tx rx : Nat) (X : List Cx) (bs : List Nat) :
    s.dcAccumulate tx rx X bs = { s with dcSum := (s.dcAccumulate tx rx X bs).dcSum } := by
  induction bs generalizing s with
  | nil => rfl
  | cons b bs ih =>
    rw [State.dcAccumulate, ih]
    rfl

/-- A value of the table with a spectrum's bin added (R234). -/
def addedTo (o : C32) (x : Cx) : C32 := ⟨BitVec.ofInt 32 (o.re.toInt + x.re), BitVec.ofInt 32 (o.im.toInt + x.im)⟩

theorem dcAccumulate_entry (s : State) (tx rx : Nat) (X : List Cx) {bs : List Nat} (hbs : ∀ b ∈ bs, b < 32) (hnodup : bs.Nodup)
    {e : Nat} (he : e < 256) : tabGet (s.dcAccumulate tx rx X bs).dcSum e default
      = if e / 32 = tx * 4 + rx ∧ e % 32 ∈ bs then addedTo (tabGet s.dcSum e default) (listGet X (binOf s (e % 32)) Cx.zero)
        else tabGet s.dcSum e default := by
  induction bs generalizing s with
  | nil => simp [State.dcAccumulate]
  | cons b bs ih =>
    obtain ⟨hb, hrest⟩ := List.forall_mem_cons.mp hbs
    obtain ⟨hnotin, hnodup⟩ := List.nodup_cons.mp hnodup
    have hbin (c : Nat) : binOf (s.dcAdd (dcEntry tx rx b) (listGet X (s.dcRangeBin b) Cx.zero)) c = binOf s c := rfl
    have hentry : tabGet (s.dcAdd (dcEntry tx rx b) (listGet X (s.dcRangeBin b) Cx.zero)).dcSum e default
        = if e / 32 = tx * 4 + rx ∧ e % 32 = b then addedTo (tabGet s.dcSum e default) (listGet X (binOf s b) Cx.zero)
          else tabGet s.dcSum e default := by
      rw [State.dcAdd, tabGet_tabSet, dcEntry_eq]
      by_cases hat : (tx * 4 + rx) * 32 + b = e
      · rw [if_pos ⟨hat, by omega⟩, if_pos (by omega), hat]
        rfl
      · rw [if_neg (by omega), if_neg (by omega)]
    rw [State.dcAccumulate, ih _ hrest hnodup, hentry, hbin]
    by_cases hA : e / 32 = tx * 4 + rx
    · by_cases hB : e % 32 = b
      · rw [if_neg (fun h => hnotin (hB ▸ h.2)), if_pos ⟨hA, hB⟩, if_pos ⟨hA, hB ▸ List.mem_cons_self⟩, hB]
      · simp only [hA, hB, true_and, and_false, if_false, List.mem_cons, false_or]
    · simp only [hA, false_and, if_false]

theorem dcAccumulate_summed {s : State} (hB : binsOf s ≤ 32) (tx rx : Nat) (X : List Cx) {e : Nat} (he : e < 256) :
    tabGet (s.dcAccumulate tx rx X (List.range s.dcBins)).dcSum e default = summed s tx rx X e := by
  have hbins (b : Nat) (hb : b ∈ List.range s.dcBins) : b < 32 := (List.mem_range.mp hb).trans_le hB
  rw [dcAccumulate_entry s tx rx X hbins List.nodup_range he]
  simp only [List.mem_range]
  rfl

/-! ## Compensating -/

/-- What compensating the bins `bs` leaves at position `j` (R234). -/
def compensatedAt (s : State) (tx rx : Nat) (bs : List Nat) (X : List Cx) (j : Nat) : Cx :=
  let x := listGet X j Cx.zero
  match bs.find? fun b => binOf s b == j with
  | some b => dcSubtract x (tabGet s.dcSum (dcEntry tx rx b) default).val
  | none => x

theorem compensatedAt_cons_of_eq {s : State} {b j : Nat} (h : binOf s b = j) (tx rx : Nat) (bs : List Nat) (X : List Cx) :
    compensatedAt s tx rx (b :: bs) X j = dcSubtract (listGet X j Cx.zero) (tabGet s.dcSum (dcEntry tx rx b) default).val := by
  simp only [compensatedAt, List.find?_cons, h, beq_self_eq_true]

theorem compensatedAt_cons_of_ne {s : State} {b j : Nat} (h : binOf s b ≠ j) (tx rx : Nat) (bs : List Nat) (X : List Cx) :
    compensatedAt s tx rx (b :: bs) X j = compensatedAt s tx rx bs X j := by
  simp only [compensatedAt, List.find?_cons, beq_false_of_ne h]

theorem compensatedAt_of_notMem {s : State} {bs : List Nat} {j : Nat} (h : ∀ b ∈ bs, binOf s b ≠ j) (tx rx : Nat) (X : List Cx) :
    compensatedAt s tx rx bs X j = listGet X j Cx.zero := by
  have hnone : (bs.find? fun b => binOf s b == j) = none :=
    List.find?_eq_none.mpr fun b hb => by simpa using h b hb
  simp only [compensatedAt, hnone]

theorem listGet_set (X : List Cx) (i j : Nat) (x : Cx) (hj : j < X.length) :
    listGet (X.set i x) j Cx.zero = if i = j then x else listGet X j Cx.zero := by
  by_cases h : i = j
  · subst h
    simp [listGet, hj]
  · simp [listGet, h]

theorem listGet_eq_of_le (X : List Cx) {j : Nat} (hj : X.length ≤ j) : listGet X j Cx.zero = Cx.zero := by
  simp [listGet, hj]

theorem dcCompensate_eq (s : State) (tx rx : Nat) {bs : List Nat} (hbs : bs.Pairwise fun b c => binOf s b ≠ binOf s c) (X : List Cx) :
    s.dcCompensate tx rx bs X = (List.range X.length).map (compensatedAt s tx rx bs X) := by
  induction bs generalizing X with
  | nil => exact eq_map_range rfl fun _ _ => rfl
  | cons b bs ih =>
    obtain ⟨hb, hrest⟩ := List.pairwise_cons.mp hbs
    have hbin : s.dcRangeBin b = binOf s b := rfl
    rw [State.dcCompensate, ih hrest, List.length_set]
    refine List.map_congr_left fun j hj => ?_
    have hj : j < X.length := List.mem_range.mp hj
    rw [hbin]
    by_cases hat : binOf s b = j
    · rw [compensatedAt_cons_of_eq hat, compensatedAt_of_notMem fun c hc => (hat ▸ hb c hc).symm, listGet_set _ _ _ _ hj, if_pos hat, hat]
    · rw [compensatedAt_cons_of_ne hat]
      simp only [compensatedAt, listGet_set _ _ _ _ hj, if_neg hat]

theorem range_pairwise {s : State} (hnr : binsOf s ≤ s.nr) :
    (List.range s.dcBins).Pairwise fun b c => binOf s b ≠ binOf s c := by
  refine (List.pairwise_lt_range (n := s.dcBins)).imp_of_mem fun hb hc hlt heq => ?_
  have := binOf_injective hnr (List.mem_range.mp hb) (List.mem_range.mp hc) heq
  omega

theorem dcCompensate_offsetRemoved {s : State} (hnr : binsOf s ≤ s.nr) (tx rx : Nat) (X : List Cx) :
    s.dcCompensate tx rx (List.range s.dcBins) X = offsetRemoved s tx rx X := by
  rw [dcCompensate_eq s tx rx (range_pairwise hnr) X, offsetRemoved]
  refine List.map_congr_left fun j _ => ?_
  simp only [compensatedAt, dcSubtract, sat16_eq, dcBins_eq, dcEntry_eq]
  rfl

theorem length_offsetRemoved (s : State) (tx rx : Nat) (X : List Cx) : (offsetRemoved s tx rx X).length = X.length := by
  rw [offsetRemoved, List.length_map, List.length_range]

/-! ## Means -/

theorem dcMeans_frame (s : State) (k : Nat) (es : List Nat) : s.dcMeans k es = { s with dcSum := (s.dcMeans k es).dcSum } := by
  induction es generalizing s with
  | nil => rfl
  | cons e es ih =>
    rw [State.dcMeans, ih]

theorem dcMeans_entry (s : State) (k : Nat) {es : List Nat} (hnodup : es.Nodup) {e : Nat} (he : e < 256) :
    tabGet (s.dcMeans k es).dcSum e default = if e ∈ es then (tabGet s.dcSum e default).mean k else tabGet s.dcSum e default := by
  induction es generalizing s with
  | nil => simp [State.dcMeans]
  | cons a es ih =>
    obtain ⟨hnotin, hnodup⟩ := List.nodup_cons.mp hnodup
    rw [State.dcMeans, ih _ hnodup, tabGet_tabSet]
    by_cases hat : a = e
    · subst hat
      rw [if_neg hnotin, if_pos ⟨rfl, he⟩, if_pos List.mem_cons_self]
    · simp only [hat, false_and, if_false, List.mem_cons, Ne.symm hat, false_or]

/-- The entries in use (R235): those of the antennas and transmitters there are. -/
theorem mem_dcEntries {s : State} {e : Nat} (hrx : s.nrx ≤ 4) (hB : binsOf s ≤ 32) :
    e ∈ s.dcEntries ↔ e / 128 < s.ntx ∧ e / 32 % 4 < s.nrx ∧ e % 32 < binsOf s := by
  simp only [State.dcEntries, List.mem_flatMap, List.mem_range, List.mem_map, dcBins_eq, dcEntry_eq]
  constructor
  · rintro ⟨tx, htx, rx, hrx', b, hb, rfl⟩
    have h128 : ((tx * 4 + rx) * 32 + b) / 128 = tx := by omega
    have h32 : ((tx * 4 + rx) * 32 + b) / 32 % 4 = rx := by omega
    have h1 : ((tx * 4 + rx) * 32 + b) % 32 = b := by omega
    rw [h128, h32, h1]
    exact ⟨htx, hrx', hb⟩
  · rintro ⟨htx, hrx', hb⟩
    exact ⟨e / 128, htx, e / 32 % 4, hrx', e % 32, hb, by omega⟩

theorem nodup_dcEntries {s : State} (hrx : s.nrx ≤ 4) (hB : binsOf s ≤ 32) : s.dcEntries.Nodup := by
  have hrow (tx rx : Nat) {e : Nat} (he : e ∈ (List.range s.dcBins).map (dcEntry tx rx)) : e / 32 = tx * 4 + rx := by
    obtain ⟨b, hb, rfl⟩ := List.mem_map.mp he
    rw [List.mem_range, dcBins_eq] at hb
    rw [dcEntry_eq]
    omega
  refine List.nodup_flatMap.mpr ⟨fun tx _ => List.nodup_flatMap.mpr ⟨fun rx _ => ?_, ?_⟩, ?_⟩
  · exact List.Nodup.map (fun b c h => by rw [dcEntry_eq, dcEntry_eq] at h; omega) List.nodup_range
  · refine List.pairwise_lt_range.imp fun {rx rx'} hlt e he he' => ?_
    have h1 := hrow tx rx he
    have h2 := hrow tx rx' he'
    omega
  · refine List.pairwise_lt_range.imp fun {tx tx'} hlt e he he' => ?_
    obtain ⟨rx, hrx1, he⟩ := List.mem_flatMap.mp he
    obtain ⟨rx', hrx2, he'⟩ := List.mem_flatMap.mp he'
    have h1 := hrow tx rx he
    have h2 := hrow tx' rx' he'
    rw [List.mem_range] at hrx1 hrx2
    omega

theorem dcFinish_entry {s : State} (hrx : s.nrx ≤ 4) (hB : binsOf s ≤ 32) {k : Nat} (hk : s.act.dcAvg.toNat = 2 ^ k) {e : Nat}
    (he : e < 256) : tabGet s.dcFinish.dcSum e default
      = if e / 128 < s.ntx ∧ e / 32 % 4 < s.nrx ∧ e % 32 < binsOf s then (tabGet s.dcSum e default).mean k
        else tabGet s.dcSum e default := by
  rw [State.dcFinish, hk, Nat.log2_two_pow, dcMeans_entry s k (nodup_dcEntries hrx hB) he]
  simp only [mem_dcEntries hrx hB]

/-! ## Equal spectra -/

theorem accumulated_frame (X : List Cx) (tx rx n : Nat) (s : State) :
    accumulated X tx rx n s = { s with dcSum := (accumulated X tx rx n s).dcSum } := by
  induction n with
  | zero => rfl
  | succ n ih =>
    rw [accumulated, dcAccumulate_frame, ih]

theorem ofInt_toInt_add (a b : Int) : BitVec.ofInt 32 ((BitVec.ofInt 32 a).toInt + b) = BitVec.ofInt 32 (a + b) := by
  rw [BitVec.ofInt_add, BitVec.ofInt_toInt, ← BitVec.ofInt_add]

/-- `n` equal spectra accumulated from a zero table (R238). -/
theorem accumulated_entry {X : List Cx} {tx rx : Nat} {s : State} (hB : binsOf s ≤ 32)
    (hzero : s.dcSum = Vector.replicate 256 ⟨0, 0⟩) (n : Nat) {b : Nat} (hb : b < binsOf s) (he : (tx * 4 + rx) * 32 + b < 256) :
    let x := listGet X (binOf s b) Cx.zero
    tabGet (accumulated X tx rx n s).dcSum ((tx * 4 + rx) * 32 + b) default
      = ⟨BitVec.ofInt 32 (n * x.re), BitVec.ofInt 32 (n * x.im)⟩ := by
  intro x
  induction n with
  | zero =>
    rw [accumulated, hzero]
    have hentry : tabGet (Vector.replicate 256 (⟨0, 0⟩ : C32)) ((tx * 4 + rx) * 32 + b) default = ⟨0, 0⟩ := by
      rw [show (default : C32) = ⟨0, 0⟩ from rfl]
      exact Reset.tabGet_replicate 256 _ _
    rw [hentry, Nat.cast_zero, Int.zero_mul, Int.zero_mul]
    rfl
  | succ n ih =>
    have hact : (accumulated X tx rx n s).act = s.act := by rw [accumulated_frame]
    have hbins : s.dcBins = (accumulated X tx rx n s).dcBins := by simp only [dcBins_eq, binsOf, hact]
    have hbin : binOf (accumulated X tx rx n s) b = binOf s b := by simp only [binOf, State.nr, hact]
    have hbins' : binsOf (accumulated X tx rx n s) = binsOf s := by simp only [binsOf, hact]
    have hmod : ((tx * 4 + rx) * 32 + b) % 32 = b := by omega
    have hdiv : ((tx * 4 + rx) * 32 + b) / 32 = tx * 4 + rx := by omega
    rw [accumulated, hbins, dcAccumulate_summed (by rw [hbins']; exact hB) tx rx X he, summed, hmod, hdiv, hbins', hbin]
    simp only [hb, and_self, if_true, ih, ofInt_toInt_add]
    push_cast
    rw [add_mul, add_mul, one_mul, one_mul]

theorem toInt_ofInt {v : Int} (hlo : -2 ^ 31 ≤ v) (hhi : v < 2 ^ 31) : (BitVec.ofInt 32 v).toInt = v := by
  rw [BitVec.toInt_ofInt]
  exact Int.bmod_eq_of_le (by omega) (by omega)

/-- The mean of `2^k` equal values is the value (R235). -/
theorem rndShr_scaled (k : Nat) (x : Int) : rndShr (2 ^ k * x) k = x := by
  have hpos : (0 : Int) < 2 ^ k := by positivity
  rw [rndShr_eq, roundShift, pow_succ, show 2 * (2 ^ k * x) + 2 ^ k = 2 ^ k + 2 ^ k * 2 * x by ring,
    Int.add_mul_ediv_left _ _ (by positivity), Int.ediv_eq_zero_of_lt (by positivity) (by omega),
    Int.zero_add]

theorem scaled_bounds {k : Nat} (hk : k < 16) {x : Int} (hlo : -32768 ≤ x) (hhi : x ≤ 32767) :
    -2 ^ 31 ≤ (2 ^ k : Nat) * x ∧ ((2 ^ k : Nat) : Int) * x < 2 ^ 31 := by
  have hpow : ((2 ^ k : Nat) : Int) ≤ 2 ^ 15 := by exact_mod_cast Nat.pow_le_pow_right (by decide) (by omega : k ≤ 15)
  have hpos : (0 : Int) ≤ ((2 ^ k : Nat) : Int) := by positivity
  constructor <;> nlinarith

/-- The mean of `2^k` equal 16-bit values, as the table holds it. -/
theorem mean_scaled {k : Nat} (hk : k < 16) {x : Int} (hlo : -32768 ≤ x) (hhi : x ≤ 32767) :
    (BitVec.ofInt 32 (rndShr (BitVec.ofInt 32 ((2 ^ k : Nat) * x)).toInt k)).toInt = x := by
  obtain ⟨hmin, hmax⟩ := scaled_bounds hk hlo hhi
  rw [toInt_ofInt hmin hmax, Nat.cast_pow, Nat.cast_ofNat, rndShr_scaled, toInt_ofInt (by omega) (by omega)]

theorem listGet_bounds {X : List Cx} (h : ∀ z ∈ X, -32768 ≤ z.re ∧ z.re ≤ 32767 ∧ -32768 ≤ z.im ∧ z.im ≤ 32767) (j : Nat) (z : Cx)
    (hz : z = listGet X j Cx.zero) : -32768 ≤ z.re ∧ z.re ≤ 32767 ∧ -32768 ≤ z.im ∧ z.im ≤ 32767 := by
  subst hz
  by_cases hj : j < X.length
  · have hget : listGet X j Cx.zero = X[j] := by simp [listGet, hj]
    rw [hget]
    exact h _ (List.getElem_mem hj)
  · rw [listGet_eq_of_le X (by omega)]
    decide

/-- Settles O53: accumulating and compensating entry by entry, and the mean of equal spectra. -/
theorem calibrationRemovesTheOffset : Obligations.CalibrationRemovesTheOffset := by
  constructor
  · intro s X tx rx hgeo hcheck hon hrx hX t
    obtain ⟨hB, hBr⟩ := binsOf_le hcheck hon
    exact ⟨dcCompensate_offsetRemoved hBr tx rx X, dcAccumulate_frame s tx rx X _, fun e he => dcAccumulate_summed hB tx rx X he⟩
  · intro s X tx rx k hgeo hcheck hon hk hzero htx hrx hX hbound t Y
    obtain ⟨hB, hBr⟩ := binsOf_le hcheck hon
    have hk16 : k < 16 := by
      obtain ⟨⟨e, he, hpow⟩, -⟩ := hcheck hon
      have : e = k := Nat.pow_right_injective (le_refl 2) (hpow.symm.trans hk)
      omega
    obtain ⟨-, hrx4⟩ : CheckHolds s.act 1 := hgeo 1 (by decide)
    obtain ⟨-, htx2⟩ : CheckHolds s.act 2 := hgeo 2 (by decide)
    have hrx4 : s.nrx ≤ 4 := hrx4
    have htx2 : s.ntx ≤ 2 := htx2
    have hact : t.act = s.act := by
      simp only [t]
      rw [State.dcFinish, dcMeans_frame, accumulated_frame]
    have hbinst : binsOf t = binsOf s := by simp only [binsOf, hact]
    have hbint (b : Nat) : binOf t b = binOf s b := by simp only [binOf, State.nr, hact]
    have hY : Y = offsetRemoved t tx rx X := by
      have hbins : s.dcBins = t.dcBins := by rw [dcBins_eq, dcBins_eq, hbinst]
      simp only [Y]
      rw [hbins]
      exact dcCompensate_offsetRemoved (by rw [hbinst, State.nr, hact]; exact hBr) tx rx X
    have hmean (b : Nat) (hb : b < binsOf s) : (tabGet t.dcSum ((tx * 4 + rx) * 32 + b) default).val = listGet X (binOf s b) Cx.zero := by
      have he : (tx * 4 + rx) * 32 + b < 256 := by omega
      have hacc : (accumulated X tx rx (2 ^ k) s).act = s.act := by rw [accumulated_frame]
      obtain ⟨hrelo, hrehi, himlo, himhi⟩ := listGet_bounds hbound (binOf s b) _ rfl
      have hentry := dcFinish_entry (s := accumulated X tx rx (2 ^ k) s) (e := (tx * 4 + rx) * 32 + b) (k := k)
        (by rw [State.nrx, hacc]; exact hrx4) (by simp only [binsOf, hacc]; exact hB) (by rw [hacc]; exact hk) he
      have hin : ((tx * 4 + rx) * 32 + b) / 128 < (accumulated X tx rx (2 ^ k) s).ntx
          ∧ ((tx * 4 + rx) * 32 + b) / 32 % 4 < (accumulated X tx rx (2 ^ k) s).nrx
          ∧ ((tx * 4 + rx) * 32 + b) % 32 < binsOf (accumulated X tx rx (2 ^ k) s) := by
        simp only [State.ntx, State.nrx, binsOf, hacc]
        change _ < s.ntx ∧ _ < s.nrx ∧ _ < binsOf s
        omega
      rw [if_pos hin, accumulated_entry hB hzero (2 ^ k) hb he] at hentry
      simp only [t]
      rw [hentry]
      exact Roots.cx_ext (mean_scaled hk16 hrelo hrehi) (mean_scaled hk16 himlo himhi)
    have hlen (b : Nat) : binOf s b < X.length := by
      rw [hX]
      exact binOf_lt (nr_pos hgeo) b
    refine ⟨hmean, fun b hb => ?_, fun j hj => ?_⟩
    · have hfind : (List.range (binsOf t)).find? (fun c => binOf t c == binOf s b) = some b := by
        rw [List.find?_range_eq_some]
        refine ⟨by simp [hbint], List.mem_range.mpr (hbinst ▸ hb), fun c hc => ?_⟩
        rw [hbint, Bool.not_eq_true', beq_eq_false_iff_ne]
        exact fun heq => absurd (binOf_injective hBr (hc.trans hb) hb heq) hc.ne
      rw [hY, offsetRemoved, listGet_map_range _ (hlen b)]
      simp only [hfind]
      have hval := hmean b hb
      have hre := congrArg Cx.re hval
      have him := congrArg Cx.im hval
      rw [C32.val] at hre him
      dsimp only at hre him
      rw [hre, him, sub_self, sub_self]
      rfl
    · rw [hY]
      by_cases hin : j < X.length
      · have hfind : (List.range (binsOf t)).find? (fun c => binOf t c == j) = none :=
          List.find?_eq_none.mpr fun c hc => by
            rw [hbint]
            simpa using hj c (hbinst ▸ List.mem_range.mp hc)
        rw [offsetRemoved, listGet_map_range _ hin]
        simp only [hfind]
      · rw [listGet_eq_of_le X (by omega), listGet_eq_of_le _ (by rw [length_offsetRemoved]; omega)]

end Sys2Proof.Proofs.Calibration
end

section
/-! SUPPORT. The per-chirp sequence, step by step (R232). -/

namespace Sys2Proof.Proofs.Chirp

open Sys2Proof.Machine Sys2Proof.Claim Sys2Proof.Proofs.Nop Sys2Proof.Proofs.Carry Sys2Proof.Proofs.Control Sys2Proof.Proofs.CommandPort
  Sys2Proof.Proofs.Access Sys2Proof.Proofs.Transform Sys2Proof.Proofs.Relabel Sys2Proof.Proofs.Calibration

set_option Elab.async false

/-! ## How a step at a position ends -/

section
variable {s t : State} {m : Seqr Flow}

theorem seqStep_of_pos {q : Pos} (hseq : s.seq = .pos q) : seqStep s = .next (settle (runPos q) s) := by
  rw [seqStep, hseq]

theorem settle_pos {q : Pos} (h : m s = .ok (.pos q) t) : settle m s = { t with seq := .pos q } := by rw [settle, h]

theorem settle_wait {p : Nat} {q : Pos} (h : m s = .ok (.wait p q) t) : settle m s = { t with seq := .wait p q } := by rw [settle, h]

theorem settle_error {f : Fatal} (h : m s = .error f t) : settle m s = faulted t f.code.num f.info := by
  rw [settle, h, ← fatal_eq_faulted]

theorem settle_congr {m' : Seqr Flow} {s' : State} (h : m s = m' s') : settle m s = settle m' s' := by rw [settle, settle, h]

/-- A wait whose channel has not completed. -/
theorem settle_awaitThen_wait {p : Nat} (hp : p < 12) (q : Pos) (h : (s.chan p).xfer.isDone = false) :
    settle (awaitThen p q m) s = { s with seq := .wait p q } := settle_wait (awaitThen_wait p q m s hp h)

/-- A wait whose channel has. -/
theorem settle_awaitThen_done {p : Nat} (hp : p < 12) (q : Pos) (h : (s.chan p).xfer.isDone = true) :
    settle (awaitThen p q m) s = settle m (freed s p) := settle_congr (awaitThen_done p q m s hp h)

theorem chan_freed_ne {p q : Nat} (hp : p < 12) (h : q ≠ p) : (freed s p).chan q = s.chan q := by
  rw [freed, chan_setChan s p q _ hp, if_neg h]

end

/-- The window once the block rewrites a buffer of R88 (R102). -/
theorem close_placeOf (s : State) {k : Nat} (hk : k < 18) : s.window.close (s.placeOf k) = without s k := by
  have hplace : s.placeOf k = placed s k := by
    rw [State.placeOf, bufSize_eq _ hk]
    rfl
  rw [hplace]
  rfl

/-! ## The steps but the fourth -/

section
variable {s : State} {byCmd : Bool}

theorem chirpStart_eq (s : State) : s.chirpStart =
    { s with
      chirpScr := ⟨s.chirpCount.toNat, s.txAntCount.toNat, s.dopBinCount.toNat,
        s.act.dcEnable && decide (s.dcCount.toNat < s.act.dcAvg.toNat * s.ntx),
        s.act.dcEnable && decide (s.dcCount.toNat = s.act.dcAvg.toNat * s.ntx), false⟩
      before := tablesOf s
      dcSum := if (s.act.dcEnable && decide (s.dcCount.toNat < s.act.dcAvg.toNat * s.ntx)) = true ∧ s.dcCount = 0
        then Vector.replicate 256 ⟨0, 0⟩ else s.dcSum } := by
  simp only [State.chirpStart, Bool.and_eq_true, beq_iff_eq, State.dcTarget]
  rfl

theorem chirpPhase_s2 (byCmd : Bool) (s : State) : chirpPhase .s2 byCmd s =
    (if 2 ≤ s.chirpScr.c then awaitThen (2 + s.chirpScr.c % 2) (.chirp .s3 byCmd) (pure (.pos (.chirp .s3 byCmd)))
      else pure (.pos (.chirp .s3 byCmd)) : Seqr Flow) s := rfl

theorem chirpPhase_s3 (byCmd : Bool) (s : State) : chirpPhase .s3 byCmd s =
    (dmaRetrig 0 0xC0000000 (s.buf 0) >>= fun _ => (pure (.pos (.chirp (if 0 < s.nrx then .s4 0 else .s5) byCmd)) : Seqr Flow)) s := by
  have hzero : s.adcAddr 0 0 = 0xC0000000 := by rw [State.adcAddr]; omega
  rw [← hzero]
  rfl

theorem chirpPhase_s6 (byCmd : Bool) (s : State) : chirpPhase .s6 byCmd s =
    (dmaRetrig (2 + s.chirpScr.c % 2) (s.buf (2 + s.chirpScr.c % 2)) (cubeCell s (s.chirpScr.tx * s.nrx) 0 s.chirpScr.d) >>= fun _ =>
      modify (fun t : State => { t with window := t.window.close (s.placeOf 4) }) >>= fun _ =>
        (pure (.pos (.chirp .s7 byCmd)) : Seqr Flow)) s := rfl

/-- Step 5 with a chirp accumulated (R232, R235). -/
theorem dcCountUp_spec {k : Nat} (hk : s.act.dcAvg.toNat = 2 ^ k) (hrx : s.nrx ≤ 4) (hB : binsOf s ≤ 32) :
    s.dcCountUp = { s with dcCount := s.dcCount + 1, dcSum := s.dcCountUp.dcSum }
      ∧ ∀ e, e < 256 →
        let o := tabGet s.dcSum e default
        tabGet s.dcCountUp.dcSum e default =
          if (s.dcCount + 1).toNat = s.act.dcAvg.toNat * s.ntx ∧ e / 128 < s.ntx ∧ e / 32 % 4 < s.nrx ∧ e % 32 < binsOf s then
            ⟨BitVec.ofInt 32 (roundShift o.re.toInt k), BitVec.ofInt 32 (roundShift o.im.toInt k)⟩
          else o := by
  have hcases : s.dcCountUp = if (s.dcCount + 1).toNat = s.act.dcAvg.toNat * s.ntx
      then { s with dcCount := s.dcCount + 1 }.dcFinish else { s with dcCount := s.dcCount + 1 } := rfl
  rw [hcases]
  by_cases hlast : (s.dcCount + 1).toNat = s.act.dcAvg.toNat * s.ntx
  · rw [if_pos hlast]
    refine ⟨dcMeans_frame _ _ _, fun e he => ?_⟩
    intro o
    rw [dcFinish_entry (s := { s with dcCount := s.dcCount + 1 }) hrx hB hk he]
    simp only [hlast, true_and, C32.mean, C32.ofCx, Arithmetic.rndShr_eq]
    rfl
  · rw [if_neg hlast]
    refine ⟨rfl, fun e _ => ?_⟩
    simp only [hlast, false_and, if_false]

/-- Step 8's second wait (R232). -/
theorem settle_drainSecond {u : State} (hslot : u.chirpScr = s.chirpScr) :
    ((s.chan (2 + s.chirpScr.c % 2)).xfer.isDone = false →
      settle (drainSecond byCmd u) s = { s with seq := .wait (2 + s.chirpScr.c % 2) (.chirp .s8set byCmd) })
    ∧ ((s.chan (2 + s.chirpScr.c % 2)).xfer.isDone = true →
      settle (drainSecond byCmd u) s
        = { freed s (2 + s.chirpScr.c % 2) with frameToken := true, seq := .pos (.chirp .s9 byCmd) }) := by
  have hp : 2 + s.chirpScr.c % 2 < 12 := by omega
  rw [drainSecond, State.chirpSlot, hslot]
  exact ⟨settle_awaitThen_wait hp _, settle_awaitThen_done hp _⟩

end

/-- Settles O50: step by step, each by its one or two shared operations. -/
theorem chirpSequenceSteps : Obligations.ChirpSequenceSteps := by
  intro s byCmd slot total acc sub go
  have hslot : 2 + slot < 12 := by simp only [slot]; omega
  refine ⟨fun hseq => ?s1, fun hseq => ⟨fun hc => ?s2first, fun hc hd => ?s2done, fun hc hd => ?s2wait⟩,
    fun hseq hrx hconf hidle => ?s3, fun hseq => ⟨fun hacc => ?s5no, fun hacc k hk hrx hB => ?s5⟩, fun hseq hconf hidle => ?s6,
    fun hseq => ?s7, fun hseq => ⟨fun hlast => ?s8no, fun hlast hd => ?s8first, fun hlast hd hd2 => ?s8both, fun hlast hd hd2 => ?s8done⟩,
    fun hseq => ⟨fun hd => ?s8wait, fun hd => ?s8second⟩, fun hseq => ?s8set,
    fun hseq => ⟨fun hlast => ?s9frame, fun hlast hby => ?s9done, fun hlast hby => ?s9idle⟩⟩
  all_goals rw [seqStep_of_pos hseq, runPos]
  case s1 =>
    have hrun : chirpPhase .s1 byCmd s = .ok (.pos (.chirp .s2 byCmd)) s.chirpStart := rfl
    rw [settle_pos hrun, chirpStart_eq]
  case s2first => rw [settle_congr (chirpPhase_s2 byCmd s), if_neg (not_le.mpr hc)]; rfl
  case s2done => rw [settle_congr (chirpPhase_s2 byCmd s), if_pos hc, settle_awaitThen_done hslot _ hd]; rfl
  case s2wait => rw [settle_congr (chirpPhase_s2 byCmd s), if_pos hc, settle_awaitThen_wait hslot _ hd]
  case s3 =>
    have hrun := chirpPhase_s3 byCmd s
    rw [seqr_bind, dmaRetrig_ok _ _ (by decide) hconf hidle, thenWith_ok, if_pos (show 0 < s.nrx from hrx)] at hrun
    rw [settle_pos hrun]
    rfl
  case s5no =>
    have hrun : chirpPhase .s5 byCmd s = .ok (.pos (.chirp .s6 byCmd)) (if s.chirpScr.acc then s.dcCountUp else s) := rfl
    rw [settle_pos hrun, hacc]
    rfl
  case s5 =>
    have hrun : chirpPhase .s5 byCmd s = .ok (.pos (.chirp .s6 byCmd)) (if s.chirpScr.acc then s.dcCountUp else s) := rfl
    obtain ⟨hframe, hentry⟩ := dcCountUp_spec hk hrx hB
    refine ⟨s.dcCountUp, ?_, hframe, hentry⟩
    rw [settle_pos hrun, hacc]
    rfl
  case s6 =>
    have hrun := chirpPhase_s6 byCmd s
    rw [seqr_bind, dmaRetrig_ok _ _ hslot hconf hidle, thenWith_ok, seqr_bind, seqr_modify, thenWith_ok] at hrun
    rw [settle_pos hrun]
    dsimp only
    rw [setChan_window, close_placeOf s (by decide)]
  case s7 => rfl
  case s8no => rw [settle_congr (chirpPhase_s8 byCmd s), hlast]; rfl
  case s8first =>
    rw [settle_congr (chirpPhase_s8 byCmd s), if_pos hlast]
    exact congrArg _ (settle_awaitThen_wait (by omega) _ hd)
  case s8both =>
    have hne : 2 + slot ≠ 2 + (1 - slot) := by simp only [slot]; omega
    rw [settle_congr (chirpPhase_s8 byCmd s), if_pos hlast]
    refine congrArg _ ((settle_awaitThen_done (by omega) _ hd).trans ((settle_drainSecond (s := freed s (2 + (1 - slot))) (u := s) rfl).1 ?_))
    exact (congrArg (fun c : Chan => c.xfer.isDone) (chan_freed_ne (by omega) hne)).trans hd2
  case s8done =>
    have hne : 2 + slot ≠ 2 + (1 - slot) := by simp only [slot]; omega
    rw [settle_congr (chirpPhase_s8 byCmd s), if_pos hlast]
    refine congrArg _ ((settle_awaitThen_done (by omega) _ hd).trans ((settle_drainSecond (s := freed s (2 + (1 - slot))) (u := s) rfl).2 ?_))
    exact (congrArg (fun c : Chan => c.xfer.isDone) (chan_freed_ne (by omega) hne)).trans hd2
  case s8wait => rw [settle_congr (chirpPhase_s8second byCmd s), (settle_drainSecond rfl).1 hd]
  case s8second => rw [settle_congr (chirpPhase_s8second byCmd s), (settle_drainSecond rfl).2 hd]
  case s8set => rfl
  case s9frame => rw [settle_congr (chirpPhase_s9 byCmd s), if_pos hlast]; rfl
  case s9done => rw [settle_congr (chirpPhase_s9 byCmd s), hlast, hby]; rfl
  case s9idle => rw [settle_congr (chirpPhase_s9 byCmd s), hlast, hby]; rfl

/-! ## Step 4 -/

/-- One antenna and the way on (R232 step 4). -/
def antennaStep (nrx rx : Nat) (byCmd : Bool) : Seqr Flow :=
  chirpAntenna rx >>= fun _ => pure (.pos (.chirp (if rx + 1 < nrx then .s4 (rx + 1) else .s5) byCmd))

theorem chirpPhase_s4 (rx : Nat) (byCmd : Bool) (s : State) :
    chirpPhase (.s4 rx) byCmd s = awaitThen (rx % 2) (.chirp (.s4body rx) byCmd) (antennaStep s.nrx rx byCmd) s := rfl

theorem chirpPhase_s4body (rx : Nat) (byCmd : Bool) (s : State) :
    chirpPhase (.s4body rx) byCmd s = antennaStep s.nrx rx byCmd s := rfl

theorem blind_antennaStep (nrx rx : Nat) (byCmd : Bool) (l : Labels) : Blind l (antennaStep nrx rx byCmd) :=
  blind_bind (blind_chirpAntenna rx) fun _ => blind_pure _

section
variable {s u : State}

/-- The calibration of one spectrum (R234): the spectrum that is stored and the table after it. -/
theorem dcStep_ok (hcal : s.chirpScr.acc = true ∨ s.chirpScr.sub = true → s.act.dcEnable = true ∧ CheckHolds s.act 11)
    (tx rx : Nat) (X : List Cx) :
    ∃ v, dcStep X tx rx s.chirpScr.acc s.chirpScr.sub s
        = .ok (if s.chirpScr.acc = false ∧ s.chirpScr.sub = true then offsetRemoved s tx rx X else X) v
      ∧ v = { s with dcSum := v.dcSum }
      ∧ ∀ e, e < 256 → tabGet v.dcSum e default
        = if s.chirpScr.acc = true then summed s tx rx X e else tabGet s.dcSum e default := by
  cases hacc : s.chirpScr.acc with
  | true =>
    obtain ⟨hon, hcheck⟩ := hcal (.inl hacc)
    obtain ⟨hB, -⟩ := binsOf_le hcheck hon
    exact ⟨s.dcAccumulate tx rx X (List.range s.dcBins), rfl, dcAccumulate_frame s tx rx X _, fun e he => dcAccumulate_summed hB tx rx X he⟩
  | false =>
    cases hsub : s.chirpScr.sub with
    | true =>
      obtain ⟨hon, hcheck⟩ := hcal (.inr hsub)
      obtain ⟨-, hBr⟩ := binsOf_le hcheck hon
      refine ⟨s, ?_, rfl, fun _ _ => rfl⟩
      rw [if_pos ⟨rfl, rfl⟩, ← dcCompensate_offsetRemoved hBr]
      rfl
    | false => exact ⟨s, rfl, rfl, fun _ _ => rfl⟩

/-- Samples read, transformed, calibrated and stored: step 4 after the prefetch (R232, R234). -/
theorem antenna_stored (hgeo : LegalGeometry s.act)
    (hcal : s.chirpScr.acc = true ∨ s.chirpScr.sub = true → s.act.dcEnable = true ∧ CheckHolds s.act 11) (tx rx : Nat) {src dst : Nat}
    (hread : Readable s src (4 * s.ns) 4) (hwrite : Writable s dst (4 * s.nr) 4) :
    let X := rangeSpectrum s (c16sAt s src s.ns)
    ∃ t, (readC16s src s.ns >>= fun x => dcStep (s.rangeFft x) tx rx s.chirpScr.acc s.chirpScr.sub >>= fun Y => writeC16s dst Y) s = .ok () t
      ∧ Stores { s with dcSum := t.dcSum } t dst
        (c16Bytes (if s.chirpScr.acc = false ∧ s.chirpScr.sub = true then offsetRemoved s tx rx X else X))
      ∧ ∀ e, e < 256 → tabGet t.dcSum e default
        = if s.chirpScr.acc = true then summed s tx rx X e else tabGet s.dcSum e default := by
  intro X
  have hx : (c16sAt s src s.ns).length = s.ns := by simp [c16sAt]
  have hblock : readC16s src s.ns s = .ok (c16sAt s src s.ns) s := readBlock_ok (by decide) (by decide) (cxOf 16) hread
  obtain ⟨v, hstep, hv, hentry⟩ := dcStep_ok hcal tx rx X
  have hlen : (if s.chirpScr.acc = false ∧ s.chirpScr.sub = true then offsetRemoved s tx rx X else X).length = s.nr := by
    have hX : X.length = s.nr := length_rangeSpectrum hgeo _
    split
    · rw [length_offsetRemoved, hX]
    · exact hX
  obtain ⟨t, hrun, hstore⟩ := writeBlock_ok (s := v) (al := 4) (size := 4) (by decide) (by decide) (cxBits 16) (dst := dst)
    (xs := if s.chirpScr.acc = false ∧ s.chirpScr.sub = true then offsetRemoved s tx rx X else X)
    (by rw [hlen, hv]; exact hwrite)
  have hsum : t.dcSum = v.dcSum := by rw [hstore.1]
  refine ⟨t, ?_, ?_, by rw [hsum]; exact hentry⟩
  · rw [seqr_bind, hblock, thenWith_ok, seqr_bind, rangeFft_eq hx, hstep, thenWith_ok, writeC16s_eq, hrun]
  · rw [hsum, ← hv]
    exact hstore

end

/-- Settles O51: the wait, and after it the prefetch, the transform, the calibration and the store. -/
theorem chirpAntennaStep : Obligations.ChirpAntennaStep := by
  intro s byCmd rx hgeo hrx hcal next u src dst X Y
  have hp : rx % 2 < 12 := by omega
  refine ⟨fun hseq => ⟨fun hd => ?_, fun hd => ?_⟩, fun hseq hfree hread hwrite => ?_⟩
  · rw [seqStep_of_pos hseq, runPos, settle_congr (chirpPhase_s4 rx byCmd s), settle_awaitThen_wait hp _ hd]
  · rw [seqStep_of_pos hseq, runPos, settle_congr (chirpPhase_s4 rx byCmd s), settle_awaitThen_done hp _ hd,
      seqStep_of_pos (q := .chirp (.s4body rx) byCmd) rfl, runPos, settle_congr (chirpPhase_s4body rx byCmd _)]
    exact congrArg Host.Outcome.next (settle_seq (blind_antennaStep s.nrx rx byCmd) (freed s (rx % 2)) _).symm
  · have hu : u = { s with dma := u.dma } := by
      simp only [u]
      split <;> rfl
    have hprefetch : (if rx + 1 < s.nrx then dmaRetrig ((rx + 1) % 2) (s.adcAddr (rx + 1) 0) (s.buf ((rx + 1) % 2)) else pure ()) s
        = .ok () u := by
      simp only [u]
      split
      · next hnext =>
        obtain ⟨hconf, hidle⟩ := hfree hnext
        rw [dmaRetrig_ok _ _ (by omega) hconf hidle]
        rfl
      · rfl
    obtain ⟨t, hrun, hstore, hentry⟩ := antenna_stored (s := u) (by rw [hu]; exact hgeo) (by rw [hu]; exact hcal) s.chirpScr.tx rx
      (src := src) (dst := dst) (by rw [hu] at hread ⊢; exact hread) (by rw [hu] at hwrite ⊢; exact hwrite)
    have hwork : chirpAntenna rx s = .ok () t := by
      rw [chirpAntenna_eq, seqr_bind, seqr_get, thenWith_ok, seqr_bind, hprefetch, thenWith_ok, ← hrun]
      rw [hu]
      rfl
    refine ⟨t, ?_, ?_, ?_⟩
    · have hphase : antennaStep s.nrx rx byCmd s = .ok (.pos (.chirp (if rx + 1 < s.nrx then .s4 (rx + 1) else .s5) byCmd)) t := by
        rw [antennaStep, seqr_bind, hwork]
        rfl
      rw [seqStep_of_pos hseq, runPos, settle_congr (chirpPhase_s4body rx byCmd s), settle_pos hphase]
    · rw [hu] at hstore ⊢
      exact hstore
    · rw [hu] at hentry
      exact hentry

end Sys2Proof.Proofs.Chirp
end

section
/-! SUPPORT. The peak grouper (R271 to R274): the kernel, the candidates kept, and the list they make. -/

namespace Sys2Proof.Proofs.Grouping

open Sys2Proof.Machine Sys2Proof.Claim Sys2Proof.Proofs.Bitmap Sys2Proof.Proofs.Control Sys2Proof.Proofs.Arithmetic
  Sys2Proof.Proofs.Access Sys2Proof.Proofs.CommandPort Sys2Proof.Proofs.Detector

set_option Elab.async false

/-! ## Objects appended -/

/-- The object a candidate becomes (R271). -/
def toObj (o : RawObj) : ObjOut := ⟨o.range, o.doppler, o.peak, 0, 0, 0⟩

/-- Candidates appended one by one (R271). -/
def appendObjs (s : State) : List RawObj → State
  | [] => s
  | o :: os => appendObjs (s.addObj (toObj o)).1 os

theorem addObj_of_room {s : State} (h : s.numObjOut.toNat < 100) (o : ObjOut) : (s.addObj o).1 =
    { s with objOut := tabSet s.objOut s.numObjOut.toNat o, numObjOut := s.numObjOut + 1 } := congrArg Prod.fst (if_pos h)

theorem addObj_of_full {s : State} (h : ¬ s.numObjOut.toNat < 100) (o : ObjOut) :
    (s.addObj o).1 = { s with objTruncCount := s.objTruncCount + 1 } := congrArg Prod.fst (if_neg h)

/-- `t` is `s` with the candidates appended as far as there is room and the rest counted. -/
structure Collected (s t : State) (os : List RawObj) : Prop where
  frame : t = { s with
    objOut := t.objOut
    numObjOut := s.numObjOut + BitVec.ofNat 32 (min os.length (100 - s.numObjOut.toNat))
    objTruncCount := s.objTruncCount + BitVec.ofNat 32 (os.length - min os.length (100 - s.numObjOut.toNat)) }
  new : ∀ j, j < min os.length (100 - s.numObjOut.toNat) →
    tabGet t.objOut (s.numObjOut.toNat + j) default = toObj (listGet os j default)
  old : ∀ j, j < s.numObjOut.toNat ∨ s.numObjOut.toNat + min os.length (100 - s.numObjOut.toNat) ≤ j →
    tabGet t.objOut j default = tabGet s.objOut j default

theorem collected_appendObjs (s : State) (os : List RawObj) (hn : s.numObjOut.toNat ≤ 100) : Collected s (appendObjs s os) os := by
  induction os generalizing s with
  | nil =>
    refine ⟨?_, fun j hj => absurd hj (by simp), fun _ _ => rfl⟩
    simp [appendObjs]
  | cons o os ih =>
    rw [appendObjs]
    by_cases hroom : s.numObjOut.toNat < 100
    · rw [addObj_of_room hroom]
      obtain ⟨hframe, hnew, hold⟩ := ih
        { s with objOut := tabSet s.objOut s.numObjOut.toNat (toObj o), numObjOut := s.numObjOut + 1 } (by dsimp only; bv_omega)
      have hcount : (s.numObjOut + 1).toNat = s.numObjOut.toNat + 1 := by bv_omega
      have hkept : min (o :: os).length (100 - s.numObjOut.toNat) = min os.length (100 - (s.numObjOut.toNat + 1)) + 1 := by
        rw [List.length_cons]
        omega
      dsimp only at hframe hnew hold
      rw [hcount] at hframe hnew hold
      refine ⟨?_, fun j hj => ?_, fun j hj => ?_⟩
      · rw [hkept, List.length_cons, Nat.add_sub_add_right, ← ofNat_succ]
        exact hframe
      · rw [hkept] at hj
        cases j with
        | zero =>
          rw [Nat.add_zero, hold _ (.inl (by omega)), tabGet_tabSet, if_pos ⟨rfl, hroom⟩]
          rfl
        | succ j =>
          rw [show s.numObjOut.toNat + (j + 1) = s.numObjOut.toNat + 1 + j by omega, hnew j (by omega)]
          rfl
      · rw [hkept] at hj
        rw [hold j (by omega), tabGet_tabSet, if_neg (by omega)]
    · rw [addObj_of_full hroom]
      obtain ⟨hframe, hnew, hold⟩ := ih { s with objTruncCount := s.objTruncCount + 1 } hn
      have hkept (l : List RawObj) : min l.length (100 - s.numObjOut.toNat) = 0 := by omega
      dsimp only at hframe hnew hold
      rw [hkept] at hframe hnew hold
      refine ⟨?_, fun j hj => absurd hj (by rw [hkept]; exact Nat.not_lt_zero j), fun j hj => hold j (by rw [hkept] at hj; exact hj)⟩
      rw [hkept, List.length_cons, Nat.sub_zero, ← ofNat_succ]
      exact hframe

/-! ## The kernel -/

/-- Between candidates only the list of objects changes. -/
def OnlyObjects (s u : State) : Prop := u = { s with objOut := u.objOut, numObjOut := u.numObjOut, objTruncCount := u.objTruncCount }

/-- The detection matrix can be read (R94, R272). -/
abbrev MatrixReadable (s : State) : Prop := 1 ≤ s.nd ∧ Readable s (s.buf 5) (2 * s.nr * s.nd) 2

/-- A cell of the matrix read. -/
theorem rdU16_cell {s : State} (h : MatrixReadable s) {r d : Nat} (hr : r < s.nr) (hd : d < s.nd) :
    rdU16 (s.detAddr r d) s = .ok (numAt s (s.buf 5 + 2 * (r * s.nd + d)) 2) s := by
  obtain ⟨-, hal, hin, hmay⟩ := h
  have hcell : r * s.nd + d < s.nr * s.nd := by
    calc r * s.nd + d < r * s.nd + s.nd := Nat.add_lt_add_left hd _
      _ = (r + 1) * s.nd := (Nat.succ_mul r s.nd).symm
      _ ≤ s.nr * s.nd := Nat.mul_le_mul_right s.nd hr
  have hfit : 2 * (r * s.nd + d) + 2 ≤ 2 * s.nr * s.nd := by
    rw [Nat.mul_assoc]
    exact element_fits hcell
  rw [rdU16_eq]
  exact elemRead_ok id ⟨mul_mod_zero (by decide) hal, admits_part hin (by decide) hfit, mayRead_part hmay hfit⟩

/-- The row and the column of a neighbour, and whether there is such a row (R272). -/
def rowOf (r : Nat) (off : Int × Int) : Nat := ((r : Int) + off.1).toNat

def colOf (s : State) (d : Nat) (off : Int × Int) : Nat := (((d : Int) + off.2) % (s.nd : Int)).toNat

abbrev OutOfRows (s : State) (r : Nat) (off : Int × Int) : Prop := (r : Int) + off.1 < 0 ∨ (s.nr : Int) ≤ (r : Int) + off.1

section
variable {s : State} {r : Nat} {off : Int × Int}

theorem kernelAt_out (h : OutOfRows s r off) (scheme : Bool) (d : Nat) : kernelAt s scheme r d off = 0 := if_pos h

theorem kernelAt_list (h : ¬ OutOfRows s r off) (d : Nat) : kernelAt s true r d off = rawPeak s.rawList (rowOf r off) (colOf s d off) :=
  (if_neg h).trans (if_pos rfl)

theorem kernelAt_matrix (h : ¬ OutOfRows s r off) (d : Nat) :
    kernelAt s false r d off = numAt s (s.buf 5 + 2 * (rowOf r off * s.nd + colOf s d off)) 2 := (if_neg h).trans (if_neg (by decide))

theorem groupKernel_eq (r d : Nat) (off : Int × Int) (s : State) : groupKernel r d off s =
    (if OutOfRows s r off then pure 0 else if s.act.pkScheme then pure (rawPeak s.rawList (rowOf r off) (colOf s d off))
      else rdU16 (s.detAddr (rowOf r off) (colOf s d off)) : Seqr Nat) s := rfl

theorem colOf_lt (h : 1 ≤ s.nd) (d : Nat) (off : Int × Int) : colOf s d off < s.nd := by
  have hnd : (0 : Int) < s.nd := by omega
  have hlt := Int.emod_lt_of_pos ((d : Int) + off.2) hnd
  rw [colOf]
  omega

theorem groupKernel_ok (h : s.act.pkScheme = false → MatrixReadable s) (r d : Nat) (off : Int × Int) :
    groupKernel r d off s = .ok (kernelAt s s.act.pkScheme r d off) s := by
  rw [groupKernel_eq]
  by_cases hout : OutOfRows s r off
  · rw [if_pos hout, kernelAt_out hout]
    rfl
  · rw [if_neg hout]
    cases hscheme : s.act.pkScheme with
    | true =>
      rw [if_pos rfl, kernelAt_list hout]
      rfl
    | false =>
      have hmatrix := h hscheme
      rw [if_neg (by decide), kernelAt_matrix hout]
      exact rdU16_cell hmatrix (by rw [rowOf]; omega) (colOf_lt hmatrix.1 d off)

end

/-- The mask is the selection (R273). -/
theorem groupMask_eq (a b : Bool) : groupMask a b = selected a b := by
  cases a <;> cases b <;> rfl

theorem groupKeeps_ok {s : State} {r d : Nat} {offs : List (Int × Int)}
    (h : ∀ off, offs ≠ [] → groupKernel r d off s = .ok (kernelAt s s.act.pkScheme r d off) s) :
    groupKeeps r d offs s = .ok (offs.all fun off =>
      decide (kernelAt s s.act.pkScheme r d off ≤ kernelAt s s.act.pkScheme r d (0, 0))) s := by
  induction offs with
  | nil => rfl
  | cons off offs ih =>
    rw [groupKeeps, seqr_bind, h _ (by simp), thenWith_ok, seqr_bind, h _ (by simp), thenWith_ok, seqr_bind,
      ih fun o _ => h o (by simp), thenWith_ok, List.all_cons]
    rfl

/-- The matrix is needed only by the matrix scheme and where there is a neighbour to compare with. -/
abbrev GroupReadable (s : State) : Prop :=
  s.act.pkScheme = false → (s.act.pkRange || s.act.pkDoppler) = true → MatrixReadable s

theorem selected_nil : selected false false = [] := rfl

theorem groupOne_ok {s : State} (h : GroupReadable s) (o : RawObj) :
    groupOne o s = .ok () (if keeps s s.act.pkScheme o then (s.addObj (toObj o)).1 else s) := by
  have hrun : groupOne o s = (if o.range < s.act.pkMin ∨ s.act.pkMax < o.range then pure ()
    else groupKeeps o.range.toNat o.doppler.toNat (groupMask s.act.pkRange s.act.pkDoppler) >>= fun keep =>
      if keep then modify fun t => (t.addObj (toObj o)).1 else pure () : Seqr Unit) s := rfl
  have hbounds : (o.range < s.act.pkMin ∨ s.act.pkMax < o.range)
      ↔ ¬ (s.act.pkMin.toNat ≤ o.range.toNat ∧ o.range.toNat ≤ s.act.pkMax.toNat) := by
    rw [BitVec.lt_def, BitVec.lt_def]
    omega
  rw [hrun]
  by_cases hin : s.act.pkMin.toNat ≤ o.range.toNat ∧ o.range.toNat ≤ s.act.pkMax.toNat
  · rw [if_neg (by rw [hbounds]; exact not_not.mpr hin), seqr_bind, groupMask_eq, groupKeeps_ok fun off hne => groupKernel_ok (fun hs => h hs ?_) _ _ off]
    · rw [thenWith_ok, keeps, decide_eq_true hin.1, decide_eq_true hin.2, Bool.true_and, Bool.true_and]
      split <;> rfl
    · by_contra hoff
      rw [Bool.not_eq_true, Bool.or_eq_false_iff] at hoff
      rw [hoff.1, hoff.2] at hne
      exact hne selected_nil
  · rw [if_pos (hbounds.mpr hin)]
    have hno : keeps s s.act.pkScheme o = false := by
      rw [keeps, ← Bool.decide_and, decide_eq_false hin, Bool.false_and]
    rw [hno]
    rfl

/-! ## The whole list -/

theorem onlyObjects_addObj (s : State) (o : ObjOut) : OnlyObjects s (s.addObj o).1 := by
  unfold State.addObj OnlyObjects
  split <;> rfl

theorem groupAll_ok {s : State} (h : GroupReadable s) (os : List RawObj) :
    groupAll os s = .ok () (appendObjs s (os.filter (keeps s s.act.pkScheme))) := by
  induction os generalizing s with
  | nil => rfl
  | cons o os ih =>
    rw [groupAll, seqr_bind, groupOne_ok h, thenWith_ok]
    cases hkeep : keeps s s.act.pkScheme o with
    | false =>
      rw [List.filter_cons_of_neg (by rw [hkeep]; decide)]
      exact ih h
    | true =>
      have hnext : OnlyObjects s (s.addObj (toObj o)).1 := onlyObjects_addObj s _
      rw [List.filter_cons_of_pos hkeep, appendObjs, if_pos rfl]
      generalize (s.addObj (toObj o)).1 = u at hnext
      rw [ih (by rw [hnext]; exact h), hnext]
      rfl

/-- The body of PKGRP.RUN (R271, R327). -/
theorem groupRun_ok {s : State} (h : GroupReadable s) :
    groupRun s = .ok () (appendObjs { s with numObjOut := 0 } (s.rawList.filter (keeps s s.act.pkScheme))) :=
  groupAll_ok (s := { s with numObjOut := 0 }) h s.rawList

theorem ofNat_toNat_min (n : Nat) (h : n ≤ 100) : BitVec.ofNat 32 (BitVec.ofNat 32 n).toNat = BitVec.ofNat 32 n := by
  rw [BitVec.toNat_ofNat, Nat.mod_eq_of_lt (by omega)]

/-- Settles O43: the candidates one after the other, appended to the emptied list. -/
theorem pkgrpKeepsLocalMaxima : Obligations.PkgrpKeepsLocalMaxima := by
  intro s hm hread kept n
  have hadm : admitted .pkgrpRun s.mode = true := by rw [hm]; rfl
  obtain ⟨hframe, hnew, hold⟩ := collected_appendObjs { s with numObjOut := 0 } kept (Nat.zero_le 100)
  have hbody : pkgrpBody s = .ok () { appendObjs { s with numObjOut := 0 } kept with
      res0 := BitVec.ofNat 32 (appendObjs { s with numObjOut := 0 } kept).numObjOut.toNat } := by
    rw [pkgrpBody, seqr_bind, groupRun_ok hread]
    rfl
  have hcount : (0 : Word) + BitVec.ofNat 32 (min kept.length (100 - (0 : Word).toNat)) = BitVec.ofNat 32 n := BitVec.zero_add _
  have hnum : (appendObjs { s with numObjOut := 0 } kept).numObjOut = BitVec.ofNat 32 n := by
    rw [hframe]
    exact hcount
  refine ⟨_, exec_done rfl hadm hbody, ?_, fun j hj => ?_, fun j hj => hold j (.inr ?_)⟩
  · rw [hnum, ofNat_toNat_min n (Nat.min_le_right _ _)]
    conv_lhs => rw [hframe]
    dsimp only
    rw [hcount]
    rfl
  · have hentry := hnew j hj
    rwa [show ({ s with numObjOut := 0 } : State).numObjOut.toNat = 0 from rfl, Nat.zero_add] at hentry
  · exact (Nat.zero_add _).trans_le hj

/-! ## The two schemes (R274) -/

/-- The objects in use, given their entries. -/
theorem objects_eq {t : State} {kept : List RawObj} (hcount : t.numObjOut = BitVec.ofNat 32 (min kept.length 100))
    (hentry : ∀ j, j < min kept.length 100 → tabGet t.objOut j default = toObj (listGet kept j default)) :
    objects t = (kept.take 100).map toObj := by
  have hn : t.numObjOut.toNat = min kept.length 100 := by
    rw [hcount, BitVec.toNat_ofNat, Nat.mod_eq_of_lt (by omega)]
  refine List.ext_getElem ?_ fun j hj hj' => ?_
  · simp only [objects, hn, List.length_take, List.length_map, Vector.length_toList]
    omega
  · have hlt : j < min kept.length 100 := by
      simp only [List.length_map, List.length_take] at hj'
      omega
    have h := hentry j hlt
    have hj100 : j < 100 := by omega
    have hjk : j < kept.length := by omega
    simp only [tabGet, listGet, List.getD_eq_getElem?_getD] at h
    rw [List.getElem?_eq_getElem (by simpa using hj100), List.getElem?_eq_getElem hjk] at h
    simpa [objects] using h

section
variable {s : State}

/-- The cell of a raw entry holds its peak. -/
abbrev PeaksMatch (s : State) : Prop :=
  ∀ q ∈ s.rawList, q.range.toNat < s.nr ∧ q.doppler.toNat < s.nd
    ∧ q.peak.toNat = numAt s (s.buf 5 + 2 * (q.range.toNat * s.nd + q.doppler.toNat)) 2

/-- The raw list's value for a cell is the matrix's, or there is no entry and it is 0. -/
theorem rawPeak_cases (h : PeaksMatch s) (r d : Nat) :
    rawPeak s.rawList r d = numAt s (s.buf 5 + 2 * (r * s.nd + d)) 2
      ∨ rawPeak s.rawList r d = 0 ∧ ∀ q ∈ s.rawList, ¬ (q.range.toNat = r ∧ q.doppler.toNat = d) := by
  rw [rawPeak]
  split
  · next q hfind =>
    obtain ⟨-, -, hpeak⟩ := h q (List.mem_of_find?_eq_some hfind)
    have hcell := List.find?_some hfind
    rw [Bool.and_eq_true, beq_iff_eq, beq_iff_eq] at hcell
    rw [hpeak, hcell.1, hcell.2]
    exact .inl rfl
  · next hfind => exact .inr ⟨rfl, fun q hq => by simpa using List.find?_eq_none.mp hfind q hq⟩

theorem kernelAt_list_le (h : PeaksMatch s) (r d : Nat) (off : Int × Int) : kernelAt s true r d off ≤ kernelAt s false r d off := by
  by_cases hout : OutOfRows s r off
  · rw [kernelAt_out hout, kernelAt_out hout]
  · rw [kernelAt_list hout, kernelAt_matrix hout]
    rcases rawPeak_cases h (rowOf r off) (colOf s d off) with hpeak | ⟨hpeak, -⟩
    · exact hpeak.le
    · rw [hpeak]
      exact Nat.zero_le _

/-- At a candidate itself both schemes see the same value. -/
theorem kernelAt_centre (h : PeaksMatch s) {o : RawObj} (ho : o ∈ s.rawList) :
    kernelAt s true o.range.toNat o.doppler.toNat (0, 0) = kernelAt s false o.range.toNat o.doppler.toNat (0, 0) := by
  obtain ⟨hr, hd, -⟩ := h o ho
  have hin : ¬ OutOfRows s o.range.toNat (0, 0) := by
    simp only [OutOfRows]
    omega
  have hrow : rowOf o.range.toNat (0, 0) = o.range.toNat := by
    simp only [rowOf]
    omega
  have hcol : colOf s o.doppler.toNat (0, 0) = o.doppler.toNat := by
    rw [colOf, Int.add_zero, ← Int.natCast_emod, Nat.mod_eq_of_lt hd, Int.toNat_natCast]
  rw [kernelAt_list hin, kernelAt_matrix hin, hrow, hcol]
  rcases rawPeak_cases h o.range.toNat o.doppler.toNat with hpeak | ⟨-, hno⟩
  · exact hpeak
  · exact absurd ⟨rfl, rfl⟩ (hno o ho)

/-- What the matrix scheme keeps the list scheme keeps (R274 (a)). -/
theorem keeps_list_of_matrix (h : PeaksMatch s) {o : RawObj} (ho : o ∈ s.rawList) (hkeep : keeps s false o = true) :
    keeps s true o = true := by
  rw [keeps, Bool.and_eq_true, List.all_eq_true] at hkeep ⊢
  obtain ⟨hbounds, hall⟩ := hkeep
  refine ⟨hbounds, fun off hoff => decide_eq_true ?_⟩
  calc kernelAt s true o.range.toNat o.doppler.toNat off
      ≤ kernelAt s false o.range.toNat o.doppler.toNat off := kernelAt_list_le h _ _ _
    _ ≤ kernelAt s false o.range.toNat o.doppler.toNat (0, 0) := of_decide_eq_true (hall off hoff)
    _ = kernelAt s true o.range.toNat o.doppler.toNat (0, 0) := (kernelAt_centre h ho).symm

theorem filter_sublist_filter {α : Type} {p q : α → Bool} {l : List α} (h : ∀ x ∈ l, p x = true → q x = true) :
    (l.filter p).Sublist (l.filter q) := by
  have hp : l.filter p = (l.filter q).filter p := by
    rw [List.filter_filter]
    refine List.filter_congr fun x hx => ?_
    cases hpx : p x with
    | false => rfl
    | true => rw [h x hx hpx]; rfl
  rw [hp]
  exact List.filter_sublist

end

/-- Settles O44: each scheme by O43, the kept lists compared candidate by candidate. -/
theorem schemesAreRelated : Obligations.SchemesAreRelated := by
  intro s hm hnd hread hpeaks _ under inBounds
  obtain ⟨t0, hexec0, hframe0, hnew0, -⟩ := pkgrpKeepsLocalMaxima (under false) hm fun _ _ => ⟨hnd, hread⟩
  obtain ⟨t1, hexec1, hframe1, hnew1, -⟩ := pkgrpKeepsLocalMaxima (under true) hm fun hscheme => nomatch hscheme
  have hobj0 : objects t0 = ((s.rawList.filter (keeps s false)).take 100).map toObj := objects_eq (by rw [hframe0]; rfl) hnew0
  have hobj1 : objects t1 = ((s.rawList.filter (keeps s true)).take 100).map toObj := objects_eq (by rw [hframe1]; rfl) hnew1
  have hsub : (s.rawList.filter (keeps s false)).Sublist (s.rawList.filter (keeps s true)) :=
    filter_sublist_filter fun o ho => keeps_list_of_matrix hpeaks ho
  refine ⟨t0, t1, hexec0, hexec1, fun htrunc => ?_, fun hr hd t ht => ?_⟩
  · have hlen : (s.rawList.filter (keeps s true)).length ≤ 200 := by
      have hraw := List.length_filter_le (keeps s true) s.rawList
      rw [length_rawList] at hraw
      omega
    have hcount : s.objTruncCount + BitVec.ofNat 32 ((s.rawList.filter (keeps s true)).length
        - min (s.rawList.filter (keeps s true)).length 100) = s.objTruncCount := by
      rw [hframe1] at htrunc
      exact htrunc
    have hall : (s.rawList.filter (keeps s true)).length ≤ 100 := by
      generalize (s.rawList.filter (keeps s true)).length = k at hlen hcount
      have hnat := congrArg BitVec.toNat hcount
      rw [BitVec.toNat_add, BitVec.toNat_ofNat] at hnat
      have := s.objTruncCount.isLt
      omega
    have hall0 : (s.rawList.filter (keeps s false)).length ≤ 100 := hsub.length_le.trans hall
    rw [hobj0, hobj1, List.take_of_length_le hall, List.take_of_length_le hall0]
    exact hsub.map toObj
  · have hkeeps (b : Bool) : s.rawList.filter (keeps s b) = inBounds := by
      refine List.filter_congr fun o _ => ?_
      rw [keeps, hr, hd, selected_nil, List.all_nil, Bool.and_true]
    rcases List.mem_pair.mp ht with rfl | rfl
    · rw [hobj0, hkeeps]
      rfl
    · rw [hobj1, hkeeps]
      rfl

end Sys2Proof.Proofs.Grouping
end

section
/-! SUPPORT. The host's memory port (R82, R101, R102, R404). -/

namespace Sys2Proof.Proofs.MemoryPort

open Sys2Proof.Machine Sys2Proof.Claim Sys2Proof.Proofs.Dma Sys2Proof.Proofs.Control Sys2Proof.Proofs.Arithmetic Sys2Proof.Proofs.Access

set_option Elab.async false

/-! ## Writes -/

/-- The host stores what the sequencer would; it alone makes samples late (R404). -/
theorem wrBytes_host_eq (s : State) (a : Nat) (bs : List Byte) :
    s.wrBytes .host a bs = { s.wrBytes .sequencer a bs with lateSamples := (s.wrBytes .host a bs).lateSamples } := by
  induction bs generalizing s a with
  | nil => rfl
  | cons b bs ih =>
    have hrest (u : State) (v : List Nat) (c : Nat) (l : List Byte) : ({ u with lateSamples := v } : State).wrBytes .sequencer c l
        = { u.wrBytes .sequencer c l with lateSamples := v } := by
      induction l generalizing u c with
      | nil => rfl
      | cons x l ihl => exact ihl (u.wrByte .sequencer c x) (c + 1)
    have hbyte : s.wrByte .host a b
        = { s.wrByte .sequencer a b with lateSamples := (s.wrByte .host a b).lateSamples } := rfl
    rw [State.wrBytes, ih]
    conv_lhs => rw [hbyte, hrest]
    rfl

theorem mem_late_wrByte (s : State) (a : Nat) (b : Byte) (x : Nat) : x ∈ (s.wrByte .host a b).lateSamples
    ↔ x ∈ s.lateSamples ∨ (s.chirpToken = true ∧ tierOf x = 3 ∧ x = a) := by
  have hrun : (s.wrByte .host a b).lateSamples
      = if (s.chirpToken && tierOf a == 3) && !s.lateSamples.contains a then a :: s.lateSamples else s.lateSamples := rfl
  rw [hrun]
  by_cases hlate : (s.chirpToken && tierOf a == 3) = true
  · have hboth : s.chirpToken = true ∧ tierOf a = 3 := by simpa using hlate
    by_cases hin : a ∈ s.lateSamples
    · rw [if_neg (by simp [hin])]
      exact ⟨.inl, fun h => h.elim id fun ⟨_, _, hx⟩ => hx ▸ hin⟩
    · rw [if_pos (by simp [hlate, hin]), List.mem_cons]
      constructor
      · rintro (rfl | h)
        · exact .inr ⟨hboth.1, hboth.2, rfl⟩
        · exact .inl h
      · rintro (h | ⟨-, -, rfl⟩)
        · exact .inr h
        · exact .inl rfl
  · rw [if_neg (by simp [hlate])]
    refine ⟨.inl, fun h => h.elim id ?_⟩
    rintro ⟨hc, ht, rfl⟩
    exact absurd (by simp [hc, ht]) hlate

/-- The samples overwritten while a chirp is in progress (R404). -/
theorem mem_late_wrBytes (s : State) (a : Nat) (bs : List Byte) (x : Nat) : x ∈ (s.wrBytes .host a bs).lateSamples
    ↔ x ∈ s.lateSamples ∨ (s.chirpToken = true ∧ tierOf x = 3 ∧ a ≤ x ∧ x < a + bs.length) := by
  induction bs generalizing s a with
  | nil =>
    refine ⟨.inl, fun h => h.elim id ?_⟩
    rintro ⟨-, -, hlo, hhi⟩
    exact absurd hhi (not_lt.mpr hlo)
  | cons b bs ih =>
    have htoken : (s.wrByte .host a b).chirpToken = s.chirpToken := rfl
    rw [State.wrBytes, ih, mem_late_wrByte, htoken, or_assoc, ← and_or_left, ← and_or_left, List.length_cons]
    refine or_congr_right (and_congr_right fun _ => and_congr_right fun _ => ?_)
    omega

/-- A block inside its space lies in one tier (R81). -/
theorem tierOf_within {c : Spaces} {write : Bool} {a n x : Nat} (h : c.hostAdmits write a n = true) (hlo : a ≤ x) (hhi : x < a + n) :
    tierOf x = tierOf a := by
  obtain ⟨-, hfits, -⟩ := (hostAdmits_iff c write a n).mp h
  have hcap := capacity_le c (tierOf a)
  simp only [tierOf, offsetOf] at hfits hcap ⊢
  omega

/-! ## Reads -/

theorem rdByte_host_eq {s : State} {a : Nat} (h : ∀ p, p < 12 → (s.chan p).xfer.ownsWrite a = false) : s.rdByte .host a = byteAt s a := by
  have hforeign : s.foreignDst .host a = false := by
    simp only [State.foreignDst, List.any_eq_false, List.mem_range, Bool.and_eq_true, not_and, Bool.not_eq_true]
    exact fun p hp _ => h p hp
  simp [State.rdByte, hforeign, State.wasRaced, State.fetchesLate, byteAt]

/-- The rules' window is the model's (R102, log entry 17). -/
theorem outsideWindow_of_inWindow {s : State} {a : Nat} (h : InWindow s a) : s.outsideWindow a = false := by
  refine outsideWindow_eq_false fun hin => ?_
  rw [State.inResult, Bool.and_eq_true, List.any_eq_true] at hin
  obtain ⟨hlaid, k, hk, hhas⟩ := hin
  obtain ⟨hlo, hhi⟩ := (Shown.has_iff _ a).mp hhas
  have hk18 : k < 18 := by
    have hle : ∀ k ∈ resultBuffers, k < 18 := by decide
    exact hle k hk
  rw [State.placeOf] at hlo hhi
  dsimp only at hlo hhi
  rw [bufSize_eq _ hk18] at hhi
  obtain ⟨r, hr, hra⟩ := h (bne_iff_ne.mp hlaid) k hk hlo hhi
  exact List.any_eq_true.mpr ⟨r, hr, (Shown.has_iff r a).mpr hra⟩

/-- Settles O60: the port where it reaches, byte by byte, and where it does not. -/
theorem hostMemoryPort : Obligations.HostMemoryPort := by
  intro s addr bs n
  refine ⟨fun hin hmay => ?_, fun hin hmay hwin => ?_, fun hout => if_neg (by rw [hout]; decide), fun hout => if_neg (by rw [hout]; decide)⟩
  · refine ⟨s.wrBytes .host addr.toNat bs, if_pos hin, ⟨?_, fun a => ?_⟩, fun a => ?_⟩
    · obtain ⟨hframe, -⟩ := stores_wrBytes (s := s) (who := .sequencer) (a := addr.toNat) (bs := bs) (by decide)
        fun y hlo hhi => writeFree_of_mayWrite hmay hlo hhi
      have hhost := wrBytes_host_eq s addr.toNat bs
      have hmem : (s.wrBytes .host addr.toNat bs).mem = (s.wrBytes .sequencer addr.toNat bs).mem := by rw [hhost]
      rw [hframe] at hhost
      conv_lhs => rw [hhost]
      rw [hmem]
    · obtain ⟨-, hbytes⟩ := stores_wrBytes (s := s) (who := .sequencer) (a := addr.toNat) (bs := bs) (by decide)
        fun y hlo hhi => writeFree_of_mayWrite hmay hlo hhi
      have hbyte : byteAt (s.wrBytes .host addr.toNat bs) a = byteAt (s.wrBytes .sequencer addr.toNat bs) a := by
        rw [wrBytes_host_eq]
        rfl
      rw [hbyte, hbytes]
      rfl
    · rw [mem_late_wrBytes]
      refine or_congr_right (and_congr_right fun _ => ?_)
      constructor
      · rintro ⟨htier, hlo, hhi⟩
        exact ⟨(tierOf_within hin hlo hhi).symm.trans htier, hlo, hhi⟩
      · rintro ⟨htier, hlo, hhi⟩
        exact ⟨(tierOf_within hin hlo hhi).trans htier, hlo, hhi⟩
  · have hbytes : s.hostBytes addr.toNat n = (List.range n).map fun k => byteAt s (addr.toNat + k) :=
      List.map_congr_left fun k hk => by
        have hk := List.mem_range.mp hk
        rw [hostByte_eq (outsideWindow_of_inWindow (hwin k hk)), rdByte_host_eq (hmay k hk)]
    rw [← hbytes]
    exact if_pos hin

end Sys2Proof.Proofs.MemoryPort
end

section
/-! SUPPORT. The register map (R21, R22): the fields of a written register, the registers a write leaves, and what stands at every other
offset. -/

namespace Sys2Proof.Proofs.Registers

open Sys2Proof.Machine Sys2Proof.Claim Sys2Proof.Proofs.Bitmap

set_option Elab.async false

/-! ## The fields of a register -/

/-- Fields from bit 0 up, each a width and whether its bits can be written: the bits that can. -/
def maskOf : List (Nat × Bool) → Nat
  | [] => 0
  | (n, keep) :: fs => (if keep then 2 ^ n - 1 else 0) + 2 ^ n * maskOf fs

/-- What the writable fields take of a number. -/
def kept : Nat → List (Nat × Bool) → Nat
  | _, [] => 0
  | x, (n, keep) :: fs => (if keep then x % 2 ^ n else 0) + 2 ^ n * kept (x / 2 ^ n) fs

theorem kept_nil (x : Nat) : kept x [] = 0 := rfl
theorem kept_keep (x n : Nat) (fs : List (Nat × Bool)) : kept x ((n, true) :: fs) = x % 2 ^ n + 2 ^ n * kept (x / 2 ^ n) fs := rfl
theorem kept_skip (x n : Nat) (fs : List (Nat × Bool)) : kept x ((n, false) :: fs) = 2 ^ n * kept (x / 2 ^ n) fs := Nat.zero_add _

theorem and_maskOf (x : Nat) (fs : List (Nat × Bool)) : x &&& maskOf fs = kept x fs := by
  induction fs generalizing x with
  | nil => exact Nat.and_zero x
  | cons f fs ih =>
    obtain ⟨n, keep⟩ := f
    have hpos : 0 < 2 ^ n := Nat.two_pow_pos n
    have hlow : (if keep then 2 ^ n - 1 else 0) < 2 ^ n := by split <;> omega
    rw [maskOf, kept, ← ih, ← Nat.mod_add_div (x &&& _) (2 ^ n), Nat.and_mod_two_pow, Nat.and_div_two_pow, Nat.add_mul_mod_self_left,
      Nat.mod_eq_of_lt hlow, Nat.add_mul_div_left _ _ hpos, Nat.div_eq_of_lt hlow, Nat.zero_add]
    cases keep with
    | true => rw [if_pos rfl, if_pos rfl, Nat.and_two_pow_sub_one_eq_mod, Nat.mod_mod]
    | false => rw [if_neg (by decide), if_neg (by decide), Nat.and_zero]

/-- A register made of the writable fields of a word reads back the word under its mask. -/
theorem reg_kept (w m : Word) {fs : List (Nat × Bool)} (hm : m.toNat = maskOf fs) {n : Nat} (hn : n = kept w.toNat fs) :
    reg n = w &&& m := by
  have hand : (w &&& m).toNat = n := by rw [BitVec.toNat_and, hm, and_maskOf, hn]
  refine BitVec.eq_of_toNat_eq ?_
  rw [hand, reg, BitVec.toNat_ofNat, Nat.mod_eq_of_lt (hand ▸ (w &&& m).isLt)]

theorem toNat_field (w : Word) (a n : Nat) : (w.extractLsb' a n).toNat = w.toNat / 2 ^ a % 2 ^ n := by
  rw [BitVec.extractLsb'_toNat, Nat.shiftRight_eq_div_pow]

theorem bitAt_flagAt (w : Word) (b a : Nat) : bitAt b (flagAt w a) = 2 ^ b * (w.toNat / 2 ^ a % 2) := by
  rw [bitAt, flagAt, BitVec.getLsbD, ← Nat.toNat_testBit]
  cases w.toNat.testBit a <;> simp

theorem and_ones (w : Word) : w &&& 0xFFFFFFFF = w := BitVec.and_allOnes

theorem reg_toNat (w : Word) : reg w.toNat = w := CommandPort.ofNat_toNat_word w

/-! ## The staging registers (R31, R35 to R42) -/

/-- The offsets of the staging registers but the buffer bases. -/
def stagingOffsets : List Nat :=
  [0x040, 0x044, 0x048, 0x04C, 0x050, 0x060, 0x064, 0x070, 0x074, 0x078, 0x07C, 0x080, 0x084, 0x088, 0x08C, 0x090, 0x094]

theorem writable_low : ∀ off < 0x100, (writable off).isSome →
    off = 0x000 ∨ (0x010 ≤ off ∧ off < 0x028) ∨ off = 0x034 ∨ off = 0x038 ∨ off ∈ stagingOffsets := by decide +kernel

theorem writable_high {off : Nat} (h : 0x148 ≤ off) : writable off = none := by
  unfold writable
  iterate 15 rw [if_neg (by omega)]

theorem staging_lt {off : Nat} (h : off ∈ stagingOffsets) : 0x040 ≤ off ∧ off < 0x100 := by
  revert off
  decide +kernel

/-- A staging register reads back the bits its field table names. -/
theorem readReg_writeReg_self (c : Cfg) (w : Word) {off : Nat} {m : Word} (hoff : off ∈ stagingOffsets) (h : writable off = some m) :
    (c.writeReg off w).readReg off = w &&& m := by
  have hfields (fs : List (Nat × Bool)) {v : Word} {n : Nat} (hv : some v = some m) (hmask : v.toNat = maskOf fs)
      (hn : n = kept w.toNat fs) : reg n = w &&& m := by
    rw [← Option.some.inj hv]
    exact reg_kept w v hmask hn
  simp only [stagingOffsets, List.mem_cons, List.not_mem_nil, or_false] at hoff
  obtain rfl | rfl | rfl | rfl | rfl | rfl | rfl | rfl | rfl | rfl | rfl | rfl | rfl | rfl | rfl | rfl | rfl := hoff
  · exact hfields [(3, true)] h rfl (by simp only [Cfg.writeReg, toNat_field, kept_keep, kept_nil]; omega)
  · exact hfields [(2, true)] h rfl (by simp only [Cfg.writeReg, toNat_field, kept_keep, kept_nil]; omega)
  · exact hfields [(11, true)] h rfl (by simp only [Cfg.writeReg, toNat_field, kept_keep, kept_nil]; omega)
  · exact hfields [(11, true)] h rfl (by simp only [Cfg.writeReg, toNat_field, kept_keep, kept_nil]; omega)
  · exact hfields [(11, true)] h rfl (by simp only [Cfg.writeReg, toNat_field, kept_keep, kept_nil]; omega)
  · exact (reg_toNat w).symm.trans (hfields [(32, true)] h rfl (by simp only [kept_keep, kept_nil]; omega))
  · exact hfields [(4, true)] h rfl (by simp only [Cfg.writeReg, toNat_field, kept_keep, kept_nil]; omega)
  · exact hfields [(2, true), (1, true), (1, false), (4, true), (8, true), (8, true)] h rfl
      (by simp only [Cfg.writeReg, CfarCfg.writeCfg, toNat_field, bitAt_flagAt, kept_keep, kept_skip, kept_nil]; omega)
  · exact hfields [(16, true)] h rfl
      (by simp only [Cfg.writeReg, CfarCfg.writeThr, toNat_field, kept_keep, kept_nil]; omega)
  · exact hfields [(2, true), (1, true), (1, false), (4, true), (8, true), (8, true)] h rfl
      (by simp only [Cfg.writeReg, CfarCfg.writeCfg, toNat_field, bitAt_flagAt, kept_keep, kept_skip, kept_nil]; omega)
  · exact hfields [(16, true)] h rfl
      (by simp only [Cfg.writeReg, CfarCfg.writeThr, toNat_field, kept_keep, kept_nil]; omega)
  · exact hfields [(1, true), (1, true), (1, true)] h rfl (by simp only [Cfg.writeReg, bitAt_flagAt, kept_keep, kept_nil]; omega)
  · exact hfields [(16, true), (16, true)] h rfl (by simp only [Cfg.writeReg, toNat_field, kept_keep, kept_nil]; omega)
  · exact hfields [(1, true), (15, false), (16, true)] h rfl
      (by simp only [Cfg.writeReg, toNat_field, bitAt_flagAt, kept_keep, kept_skip, kept_nil]; omega)
  · exact hfields [(1, true), (15, false), (16, true)] h rfl
      (by simp only [Cfg.writeReg, toNat_field, bitAt_flagAt, kept_keep, kept_skip, kept_nil]; omega)
  · exact hfields [(16, true), (16, true)] h rfl (by simp only [Cfg.writeReg, toNat_field, kept_keep, kept_nil]; omega)
  · exact hfields [(5, true)] h rfl (by simp only [Cfg.writeReg, toNat_field, kept_keep, kept_nil]; omega)

theorem readReg_writeReg_ne (c : Cfg) (off : Nat) (w : Word) {o : Nat} (h : o ≠ off) : (c.writeReg off w).readReg o = c.readReg o := by
  unfold Cfg.writeReg
  split <;> simp only [Cfg.readReg] <;> (split <;> first | rfl | exact absurd rfl h)

theorem bufBase_writeReg (c : Cfg) (off : Nat) (w : Word) : (c.writeReg off w).bufBase = c.bufBase := by
  unfold Cfg.writeReg
  split <;> rfl

/-! ## What stands at an offset -/

/-- The part of the register map above the buffer bases. -/
def readTop (s : State) (off : Nat) : Word :=
  if off < 0x200 then 0
  else if off < 0x380 then (s.chan ((off - 0x200) / 0x20)).readReg ((off - 0x200) % 0x20 / 4)
  else if off < 0x400 then 0
  else if off < 0x480 then tabGet s.bmpWord ((off - 0x400) / 4) 0
  else if off < 0x800 then 0
  else if off < 0x1000 then (tabGet s.win1d ((off - 0x800) / 4) 0).zeroExtend 32
  else if off < 0x1800 then tabGet s.win2d ((off - 0x1000) / 4) 0
  else if off < 0x2000 then
    let c := tabGet s.dcSum ((off - 0x1800) / 8) default
    if (off - 0x1800) % 8 = 0 then c.re else c.im
  else if off < 0x2640 then (s.rawEntry ((off - 0x2000) / 8)).readReg ((off - 0x2000) % 8 / 4)
  else if off < 0x3000 then 0
  else if off < 0x3640 then (s.objEntry ((off - 0x3000) / 16)).readReg ((off - 0x3000) % 16 / 4)
  else if off < 0x3800 then 0
  else if off < 0x3860 then (tabGet s.outDesc ((off - 0x3800) / 16) default).readReg ((off - 0x3800) % 16 / 4)
  else 0

theorem readReg_eq (s : State) (off : Nat) :
    s.readReg off = if off % 4 ≠ 0 then 0 else if off < 0x100 then s.readCore off
      else if off < 0x148 then tabGet s.stg.bufBase ((off - 0x100) / 4) 0 else readTop s off := rfl

theorem readReg_misaligned (s : State) {off : Nat} (h : off % 4 ≠ 0) : s.readReg off = 0 := if_pos h

theorem readReg_core (s : State) {off : Nat} (h4 : off % 4 = 0) (h : off < 0x100) : s.readReg off = s.readCore off := by
  rw [readReg_eq, if_neg (not_not.mpr h4), if_pos h]

theorem readReg_bufBase (s : State) {k : Nat} (h : k < 18) : s.readReg (0x100 + 4 * k) = tabGet s.stg.bufBase k 0 := by
  rw [readReg_eq, if_neg (by omega), if_neg (by omega), if_pos (by omega)]
  congr 1
  omega

theorem readReg_top (s : State) {off : Nat} (h4 : off % 4 = 0) (h : 0x148 ≤ off) : s.readReg off = readTop s off := by
  rw [readReg_eq, if_neg (not_not.mpr h4), if_neg (by omega), if_neg (by omega)]

/-- A staging register is read from the staging configuration. -/
theorem readCore_staging (s : State) {off : Nat} (h : off ∈ stagingOffsets) : s.readCore off = s.stg.readReg off := by
  simp only [stagingOffsets, List.mem_cons, List.not_mem_nil, or_false] at h
  obtain rfl | rfl | rfl | rfl | rfl | rfl | rfl | rfl | rfl | rfl | rfl | rfl | rfl | rfl | rfl | rfl | rfl := h <;> rfl

/-- Two states that differ in no register but perhaps one answer the same at every other offset. -/
theorem readReg_congr {s t : State} {o : Nat} (hcore : o < 0x100 → t.readCore o = s.readCore o)
    (hbuf : 0x100 ≤ o → o < 0x148 → tabGet t.stg.bufBase ((o - 0x100) / 4) 0 = tabGet s.stg.bufBase ((o - 0x100) / 4) 0)
    (htop : readTop t o = readTop s o) : t.readReg o = s.readReg o := by
  rw [readReg_eq, readReg_eq, htop]
  split_ifs with h4 h1 h2
  · rfl
  · exact hcore h1
  · exact hbuf (by omega) h2
  · rfl

/-! ## A written register -/

theorem readCore_waitMode (s : State) (b : Bool) {o : Nat} (h : o ≠ 0x000) :
    ({ s with waitMode := b } : State).readCore o = s.readCore o := by
  simp only [State.readCore]
  split <;> first | rfl | exact absurd rfl h

theorem readCore_irqEnable (s : State) (w : Word) {o : Nat} (h : o ≠ 0x034) :
    ({ s with irqEnable := w } : State).readCore o = s.readCore o := by
  simp only [State.readCore]
  split <;> first | rfl | exact absurd rfl h

theorem readCore_logAvail (s : State) (b : Bool) {o : Nat} (h : o ≠ 0x038) :
    ({ s with logAvail := b } : State).readCore o = s.readCore o := by
  simp only [State.readCore]
  split <;> first | rfl | exact absurd rfl h

theorem readCore_stg (s : State) (c : Cfg) {o : Nat} (h : c.readReg o = s.stg.readReg o) :
    ({ s with stg := c } : State).readCore o = s.readCore o := by
  simp only [State.readCore]
  split <;> first | rfl | exact h

theorem readCore_arg (s : State) {i : Nat} (w : Word) (past : Vector (List Word) 6) {o : Nat} (h : o ≠ 0x010 + 4 * i) :
    ({ s with arg := tabSet s.arg i w, argPast := past } : State).readCore o = s.readCore o := by
  simp only [State.readCore, tabGet_tabSet]
  split <;> first | rfl | exact if_neg (by omega)

theorem writeReg_staging (s : State) (w : Word) {off : Nat} (h : off ∈ stagingOffsets) :
    s.writeReg off w = { s with stg := s.stg.writeReg off w } := by
  have hoff := staging_lt h
  unfold State.writeReg
  iterate 6 rw [if_neg (by omega)]

/-- A write of a writable register: it reads back the bits of its field table, and no other register changes. -/
theorem readReg_writeReg (s : State) (w : Word) {off : Nat} {m : Word} (h4 : off % 4 = 0) (h : writable off = some m) :
    (s.writeReg off w).readReg off = w &&& m ∧ ∀ o, o ≠ off → (s.writeReg off w).readReg o = s.readReg o := by
  rcases Nat.lt_or_ge off 0x100 with hlow | hhigh
  · obtain rfl | harg | rfl | rfl | hstg := writable_low off hlow (h ▸ rfl)
    · refine ⟨?_, fun o ho => readReg_congr (fun _ => readCore_waitMode s _ ho) (fun _ _ => rfl) rfl⟩
      rw [← Option.some.inj h]
      exact reg_kept (fs := [(1, true)]) w 0x1 rfl ((bitAt_flagAt w 0 0).trans (by simp only [kept_keep, kept_nil]; omega))
    · obtain ⟨i, hi, rfl⟩ : ∃ i, i < 6 ∧ off = 0x010 + 4 * i := ⟨(off - 0x010) / 4, by omega, by omega⟩
      have hwrite : s.writeReg (0x010 + 4 * i) w = s.writeArg i w := by
        rw [State.writeReg, if_neg (by omega), if_pos (by omega), Nat.add_sub_cancel_left, Nat.mul_div_cancel_left i (by decide)]
      have hmask : m = 0xFFFFFFFF := by
        rw [writable, if_neg (by omega), if_pos (by omega)] at h
        exact (Option.some.inj h).symm
      rw [hwrite, hmask, and_ones]
      refine ⟨?_, fun o ho => readReg_congr (fun _ => readCore_arg s w _ ho) (fun _ _ => rfl) rfl⟩
      rw [readReg_core _ h4 (by omega)]
      have hself : tabGet (s.writeArg i w).arg i 0 = w := by
        rw [State.writeArg, tabGet_tabSet, if_pos ⟨rfl, hi⟩]
      refine Eq.trans ?_ hself
      interval_cases i <;> rfl
    · refine ⟨?_, fun o ho => readReg_congr (fun _ => readCore_irqEnable s _ ho) (fun _ _ => rfl) rfl⟩
      rw [← Option.some.inj h]
      rfl
    · refine ⟨?_, fun o ho => readReg_congr (fun _ => readCore_logAvail s _ ho) (fun _ _ => rfl) rfl⟩
      rw [← Option.some.inj h]
      exact reg_kept (fs := [(1, true)]) w 0x1 rfl ((bitAt_flagAt w 0 0).trans (by simp only [kept_keep, kept_nil]; omega))
    · rw [writeReg_staging s w hstg]
      refine ⟨?_, fun o ho => readReg_congr (fun _ => readCore_stg s _ (readReg_writeReg_ne s.stg off w ho))
        (fun _ _ => by rw [bufBase_writeReg]) rfl⟩
      rw [readReg_core _ h4 hlow, readCore_staging _ hstg]
      exact readReg_writeReg_self s.stg w hstg h
  · have hlt : off < 0x148 := by
      by_contra hge
      exact nomatch (writable_high (by omega)).symm.trans h
    obtain ⟨k, hk, rfl⟩ : ∃ k, k < 18 ∧ off = 0x100 + 4 * k := ⟨(off - 0x100) / 4, by omega, by omega⟩
    have hwrite : s.writeReg (0x100 + 4 * k) w = { s with stg := { s.stg with bufBase := tabSet s.stg.bufBase k w } } := by
      unfold State.writeReg
      iterate 5 rw [if_neg (by omega)]
      rw [if_pos (by omega), Nat.add_sub_cancel_left, Nat.mul_div_cancel_left k (by decide)]
    have hmask : m = 0xFFFFFFFF := by
      unfold writable at h
      iterate 14 rw [if_neg (by omega)] at h
      rw [if_pos (by omega)] at h
      exact (Option.some.inj h).symm
    rw [hwrite, hmask, and_ones]
    refine ⟨?_, fun o ho => ?_⟩
    · rw [readReg_bufBase _ hk, tabGet_tabSet, if_pos ⟨rfl, hk⟩]
    · by_cases ho4 : o % 4 = 0
      · exact readReg_congr (fun _ => readCore_stg s _ rfl) (fun _ _ => by rw [tabGet_tabSet, if_neg (by omega)]) rfl
      · rw [readReg_misaligned _ ho4, readReg_misaligned _ ho4]

/-- A write of any other register has no effect. -/
theorem writeReg_of_not_writable (s : State) (w : Word) {off : Nat} (h : writable off = none) (hirq : off ≠ 0x030) :
    s.writeReg off w = s := by
  have harg : ¬(0x010 ≤ off ∧ off < 0x028) := by
    intro hoff
    rw [writable, if_neg (by omega), if_pos hoff] at h
    exact nomatch h
  have hbuf : ¬(0x100 ≤ off ∧ off < 0x148) := by
    intro hoff
    unfold writable at h
    iterate 14 rw [if_neg (by omega)] at h
    rw [if_pos hoff] at h
    exact nomatch h
  have hstg : s.stg.writeReg off w = s.stg := by
    unfold Cfg.writeReg
    split <;> first | rfl | exact nomatch h
  have hne {n : Nat} (hn : writable n ≠ none) : off ≠ n := fun heq => hn (heq ▸ h)
  rw [State.writeReg, if_neg (hne (by decide)), if_neg harg, if_neg hirq, if_neg (hne (by decide)), if_neg (hne (by decide)), if_neg hbuf,
    hstg]

/-! ## The read-only registers and tables -/

theorem readCore_readOnly (s : State) {off : Nat} (hlt : off < 0x100) (h : writable off = none) : s.readCore off = readOnly s off := by
  have hne {n : Nat} (hn : (writable n).isSome) : off ≠ n := by
    rintro rfl
    exact nomatch h ▸ hn
  refine Eq.trans ?_ (if_pos hlt).symm
  unfold State.readCore
  split
  case h_34 =>
    unfold Cfg.readReg
    split
    case h_18 => split <;> first | rfl | contradiction
    all_goals exact absurd rfl (hne rfl)
  all_goals first | rfl | exact absurd rfl (hne rfl)

theorem chan_readOnly (c : Chan) {j : Nat} (hj : j < 8) :
    c.readReg j = match 4 * j with
    | 0x00 => c.desc.src
    | 0x04 => c.desc.dst
    | 0x08 => BitVec.ofNat 32 (c.desc.esize.toNat + 2 ^ 16 * c.desc.ecount.toNat)
    | 0x0C => c.desc.sstride
    | 0x10 => c.desc.dstride
    | 0x14 => BitVec.ofNat 32 (bitAt 0 c.prio + bitAt 1 c.ien + bitAt 2 c.srcBound + bitAt 3 c.dstBound)
    | 0x18 => BitVec.ofNat 32 (bitAt 0 c.configured + match c.xfer with | .idle => 0 | .busy _ => 2 | .done _ => 4)
    | _ => 0 := by
  obtain rfl | rfl | rfl | rfl | rfl | rfl | rfl | rfl : j = 0 ∨ j = 1 ∨ j = 2 ∨ j = 3 ∨ j = 4 ∨ j = 5 ∨ j = 6 ∨ j = 7 := by omega
  case inr.inr.inr.inr.inr.inr.inl =>
    obtain ⟨desc, prio, ien, srcBound, dstBound, configured, xfer⟩ := c
    cases xfer <;> rfl
  all_goals rfl

/-- Above the buffer bases the map lists six tables and the channels, and nothing else. -/
theorem readOnly_unlisted (s : State) {off : Nat} (h0 : 0x100 ≤ off) (h1 : ¬(0x200 ≤ off ∧ off < 0x380)) (h2 : ¬(0x400 ≤ off ∧ off < 0x480))
    (h3 : ¬(0x800 ≤ off ∧ off < 0x2640)) (h4 : ¬(0x3000 ≤ off ∧ off < 0x3640)) (h5 : ¬(0x3800 ≤ off ∧ off < 0x3860)) : readOnly s off = 0 :=
  (if_neg (by omega)).trans <| (if_neg h1).trans <| (if_neg h2).trans <| (if_neg (by omega)).trans <| (if_neg (by omega)).trans <|
    (if_neg (by omega)).trans <| (if_neg (by omega)).trans <| (if_neg h4).trans (if_neg h5)

theorem readTop_readOnly (s : State) {off : Nat} (h4 : off % 4 = 0) (hge : 0x100 ≤ off)
    (hraw : InRaw off → (off - 0x2000) / 8 < s.numRawObj.toNat) (hobj : InObjs off → (off - 0x3000) / 16 < s.numObjOut.toNat) :
    readTop s off = readOnly s off := by
  unfold readTop
  refine ite_eq_iff'.mpr ⟨fun _ => ?_, fun _ => ?_⟩
  · exact (readOnly_unlisted s hge (by omega) (by omega) (by omega) (by omega) (by omega)).symm
  refine ite_eq_iff'.mpr ⟨fun _ => ?_, fun _ => ?_⟩
  · refine Eq.trans ?_ ((if_neg (by omega)).trans (if_pos (by omega))).symm
    obtain ⟨p, j, hj, rfl⟩ : ∃ p j, j < 8 ∧ off = 0x200 + 0x20 * p + 4 * j :=
      ⟨(off - 0x200) / 0x20, (off - 0x200) % 0x20 / 4, by omega, by omega⟩
    have hp : (0x200 + 0x20 * p + 4 * j - 0x200) / 0x20 = p := by omega
    have hj1 : (0x200 + 0x20 * p + 4 * j - 0x200) % 0x20 / 4 = j := by omega
    have hj2 : (0x200 + 0x20 * p + 4 * j) % 0x20 = 4 * j := by omega
    rw [hp, hj1, hj2]
    exact chan_readOnly (s.chan p) hj
  refine ite_eq_iff'.mpr ⟨fun _ => ?_, fun _ => ?_⟩
  · exact (readOnly_unlisted s hge (by omega) (by omega) (by omega) (by omega) (by omega)).symm
  refine ite_eq_iff'.mpr ⟨fun _ => ?_, fun _ => ?_⟩
  · exact ((if_neg (by omega)).trans <| (if_neg (by omega)).trans (if_pos (by omega))).symm
  refine ite_eq_iff'.mpr ⟨fun _ => ?_, fun _ => ?_⟩
  · exact (readOnly_unlisted s hge (by omega) (by omega) (by omega) (by omega) (by omega)).symm
  refine ite_eq_iff'.mpr ⟨fun _ => ?_, fun _ => ?_⟩
  · refine Eq.trans ?_ ((if_neg (by omega)).trans <| (if_neg (by omega)).trans <| (if_neg (by omega)).trans (if_pos (by omega))).symm
    exact (BitVec.ofNat_toNat 32 _).symm
  refine ite_eq_iff'.mpr ⟨fun _ => ?_, fun _ => ?_⟩
  · exact ((if_neg (by omega)).trans <| (if_neg (by omega)).trans <| (if_neg (by omega)).trans <| (if_neg (by omega)).trans
      (if_pos (by omega))).symm
  refine ite_eq_iff'.mpr ⟨fun _ => ?_, fun _ => ?_⟩
  · refine Eq.trans ?_ ((if_neg (by omega)).trans <| (if_neg (by omega)).trans <| (if_neg (by omega)).trans <| (if_neg (by omega)).trans <|
      (if_neg (by omega)).trans (if_pos (by omega))).symm
    have hmod : (off - 0x1800) % 8 = off % 8 := by omega
    rw [hmod]
  refine ite_eq_iff'.mpr ⟨fun _ => ?_, fun _ => ?_⟩
  · have hin : InRaw off := by omega
    refine Eq.trans ?_ ((if_neg (by omega)).trans <| (if_neg (by omega)).trans <| (if_neg (by omega)).trans <| (if_neg (by omega)).trans <|
      (if_neg (by omega)).trans <| (if_neg (by omega)).trans (if_pos hin)).symm
    rw [rawEntry_of_lt (hraw hin)]
    rcases (by omega : off % 8 = 0 ∨ off % 8 = 4) with hmod | hmod
    · rw [if_pos hmod, show (off - 0x2000) % 8 / 4 = 0 by omega]
      rfl
    · rw [if_neg (by omega), show (off - 0x2000) % 8 / 4 = 1 by omega]
      rfl
  refine ite_eq_iff'.mpr ⟨fun _ => ?_, fun _ => ?_⟩
  · exact (readOnly_unlisted s hge (by omega) (by omega) (by omega) (by omega) (by omega)).symm
  refine ite_eq_iff'.mpr ⟨fun _ => ?_, fun _ => ?_⟩
  · have hin : InObjs off := by omega
    refine Eq.trans ?_ ((if_neg (by omega)).trans <| (if_neg (by omega)).trans <| (if_neg (by omega)).trans <| (if_neg (by omega)).trans <|
      (if_neg (by omega)).trans <| (if_neg (by omega)).trans <| (if_neg (by omega)).trans (if_pos hin)).symm
    rw [objEntry_of_lt (hobj hin)]
    obtain ⟨j, hj, hmod⟩ : ∃ j, j < 4 ∧ off % 16 = 4 * j := ⟨off % 16 / 4, by omega, by omega⟩
    rw [hmod, show (off - 0x3000) % 16 / 4 = j by omega]
    interval_cases j <;> rfl
  refine ite_eq_iff'.mpr ⟨fun _ => ?_, fun _ => ?_⟩
  · exact (readOnly_unlisted s hge (by omega) (by omega) (by omega) (by omega) (by omega)).symm
  refine ite_eq_iff'.mpr ⟨fun _ => ?_, fun _ => ?_⟩
  · refine Eq.trans ?_ ((if_neg (by omega)).trans <| (if_neg (by omega)).trans <| (if_neg (by omega)).trans <| (if_neg (by omega)).trans <|
      (if_neg (by omega)).trans <| (if_neg (by omega)).trans <| (if_neg (by omega)).trans <| (if_neg (by omega)).trans
      (if_pos (by omega))).symm
    obtain ⟨j, hj, hmod⟩ : ∃ j, j < 4 ∧ off % 16 = 4 * j := ⟨off % 16 / 4, by omega, by omega⟩
    rw [hmod, show (off - 0x3800) % 16 / 4 = j by omega]
    interval_cases j <;> rfl
  · exact (readOnly_unlisted s hge (by omega) (by omega) (by omega) (by omega) (by omega)).symm

/-- What stands at an offset that is not writable. -/
theorem readReg_readOnly (s : State) {off : Nat} (h4 : off % 4 = 0) (h : writable off = none)
    (hraw : InRaw off → (off - 0x2000) / 8 < s.numRawObj.toNat) (hobj : InObjs off → (off - 0x3000) / 16 < s.numObjOut.toNat) :
    s.readReg off = readOnly s off := by
  rcases Nat.lt_or_ge off 0x100 with hlow | hhigh
  · rw [readReg_core s h4 hlow, readCore_readOnly s hlow h]
  · have hge : 0x148 ≤ off := by
      by_contra hlt
      unfold writable at h
      iterate 14 rw [if_neg (by omega)] at h
      rw [if_pos (by omega)] at h
      exact nomatch h
    rw [readReg_top s h4 hge, readTop_readOnly s h4 hhigh hraw hobj]

/-! ## What a read answers (R58, R403, R405) -/

theorem torn_of_lt {off : Nat} (h : 0x3860 ≤ off ∨ off < 0x400 ∧ off ≠ 0x028 ∧ off ≠ 0x02C) : torn off = false := by
  simp only [torn, Bool.or_eq_false_iff, Bool.and_eq_false_iff, beq_eq_false_iff_ne, decide_eq_false_iff_not]
  omega

theorem busRead_untorn {s : State} {off : Nat} (h : torn off = false) : s.busRead off = s.readReg off := by
  rw [State.busRead, h, Bool.and_false, if_neg (by decide)]

theorem earlier_eq_beforeSequence (s : State) : s.earlier = beforeSequence s := by
  have hplace {q : Pos} (hq : s.seq = .pos q ∨ ∃ p, s.seq = .wait p q) : s.earlier = beforeSequence s := by
    rcases hq with hq | ⟨p, hq⟩ <;> simp only [State.earlier, beforeSequence, State.withTables, hq, Seq.place] <;>
      rcases q with _ | _ | _ | ⟨r, _⟩ | _ <;> first | rfl | (cases r <;> rfl)
  cases hq : s.seq with
  | pos q => exact hplace (.inl hq)
  | wait p q => exact hplace (.inr ⟨p, hq⟩)
  | idle => rw [State.earlier, beforeSequence, hq]; rfl
  | cmd w => rw [State.earlier, beforeSequence, hq]; rfl
  | halt => rw [State.earlier, beforeSequence, hq]; rfl

/-- Settles O58: a write by the shape of the register it writes, a read by the part of the map it reads. -/
theorem registerMap : Obligations.RegisterMap := by
  intro s off w
  have hread (v : Word) (hv : s.busRead off = v) : act (.regRead off) s = .next { s with busData := v } := hv ▸ rfl
  refine ⟨rfl, fun h4 => ⟨if_pos (.inl h4), readReg_misaligned s h4⟩, fun h4 m hm hmode => ?_, fun h4 hm hcmd hirq => ?_,
    fun hmode => busWrite_halted hmode off w, fun h4 hm hraw hobj => readReg_readOnly s h4 hm hraw hobj, fun h => hread _ ?_, ?_⟩
  · have hcmd : off ≠ 0x00C := fun heq => nomatch (heq ▸ hm : writable 0x00C = some m)
    rw [busWrite_eq_writeReg h4 hcmd hmode]
    exact readReg_writeReg s w h4 hm
  · by_cases hmode : s.mode = .halted
    · exact busWrite_halted hmode off w
    · rw [busWrite_eq_writeReg h4 hcmd hmode, writeReg_of_not_writable s w hm hirq]
  · rcases h with hidle | hoff
    · exact busRead_idle hidle off
    · exact busRead_untorn (torn_of_lt hoff)
  · obtain hnow | ⟨-, -, hbusy⟩ := busRead_cases s off
    · exact .inl (hread _ hnow)
    · obtain hreg | hahead | hbefore := busyReg_cases s off
      · exact .inl (hread _ (hbusy.trans hreg))
      · cases hstep : seqStep s with
        | next t => exact .inr (.inr ⟨t, rfl, hread _ (by rw [hbusy, hahead, State.ahead, hstep])⟩)
        | fault f => exact .inl (hread _ (by rw [hbusy, hahead, State.ahead, hstep]))
        | refused f => exact .inl (hread _ (by rw [hbusy, hahead, State.ahead, hstep]))
      · exact .inr (.inl (hread _ (by rw [hbusy, hbefore, earlier_eq_beforeSequence])))

end Sys2Proof.Proofs.Registers
end

section
/-! SUPPORT. OUT.ASM (R330 to R334): the buffers of the payloads, the bytes each payload stores, the descriptors, and the end of the
frame. -/

namespace Sys2Proof.Proofs.Publish

open Sys2Proof.Machine Sys2Proof.Claim Sys2Proof.Proofs.Bitmap Sys2Proof.Proofs.Carry Sys2Proof.Proofs.Control Sys2Proof.Proofs.Arithmetic
  Sys2Proof.Proofs.Engine Sys2Proof.Proofs.Access Sys2Proof.Proofs.Grouping

set_option Elab.async false

/-- Settles O56: without a logging buffer the body is `State.drop`. -/
theorem droppedFrameIsCounted : Obligations.DroppedFrameIsCounted := by
  intro s hmode hlog
  have hbody : assembleOutput s = .ok () s.drop := by
    have hcases : assembleOutput s = (if s.logAvail = true then _ else modify State.drop : Seqr Unit) s := rfl
    rw [hcases, if_neg (by rw [hlog]; decide)]
    rfl
  exact exec_done (i := .outAsm) rfl (by rw [hmode]; rfl) hbody

/-! ## Where the buffers lie (R88 to R91) -/

/-- Address `a` is in buffer `k`. -/
abbrev InBuffer (c : Cfg) (k a : Nat) : Prop := baseOf c k ≤ a ∧ a < baseOf c k + bufferSize c k

section
variable {c : Cfg} {sp : Spaces} (h : LegalLayout c sp)
include h

theorem buffer_admits (write : Bool) {k n : Nat} (hk : k < 18) (hn : n ≤ bufferSize c k) : sp.admits write (baseOf c k) n = true := by
  obtain ⟨hall, -, -⟩ := h
  obtain ⟨⟨-, htier⟩, hfits⟩ := hall k hk
  exact (admits_iff sp write _ _).mpr ⟨by omega, by simp only [BufferFits] at hfits; omega, fun _ => by omega⟩

/-- Buffers that may not overlap share no byte (R91). -/
theorem buffers_disjoint {j k : Nat} (hjk : j < k) (hk : k < 18) (hphase : listGet phases j 0 + listGet phases k 0 ≠ 3) {a : Nat}
    (hj : InBuffer c j a) : ¬ InBuffer c k a := by
  intro hka
  obtain ⟨hall, hpair, -⟩ := h
  obtain ⟨-, hfitj⟩ := hall j (by omega)
  obtain ⟨-, hfitk⟩ := hall k hk
  have hcapj := capacity_le sp (tierOf (baseOf c j))
  have hcapk := capacity_le sp (tierOf (baseOf c k))
  refine hphase (hpair j (by omega) k hk hjk ?_)
  simp only [BufferFits, Overlap, tierOf, offsetOf] at hfitj hfitk hcapj hcapk ⊢
  omega

end

/-! ## Memory while a frame is assembled -/

/-- A block of bytes laid over a memory. -/
def laid (base : Nat) (bs : List Byte) (mem : Nat → Byte) (a : Nat) : Byte :=
  if base ≤ a ∧ a < base + bs.length then listGet bs (a - base) 0 else mem a

/-- A block of bytes laid over a memory where its payload is selected. -/
def laidIf (sel : Bool) (base : Nat) (bs : List Byte) (mem : Nat → Byte) : Nat → Byte := if sel then laid base bs mem else mem

theorem laidIf_apply (sel : Bool) (base : Nat) (bs : List Byte) (mem : Nat → Byte) (a : Nat) :
    laidIf sel base bs mem a = if sel then laid base bs mem a else mem a := by cases sel <;> rfl

/-- Blocks that share no byte may be laid in either order. -/
theorem laidIf_comm {a b : Nat} {as bs : List Byte} (x y : Bool) (h : ∀ c, ¬((a ≤ c ∧ c < a + as.length) ∧ b ≤ c ∧ c < b + bs.length))
    (mem : Nat → Byte) : laidIf x a as (laidIf y b bs mem) = laidIf y b bs (laidIf x a as mem) := by
  cases x <;> cases y <;> try rfl
  funext c
  have hc := h c
  simp only [laidIf, if_true, laid]
  split_ifs <;> first | rfl | omega

theorem numAt_congr {s t : State} {a n : Nat} (h : ∀ k, k < n → byteAt t (a + k) = byteAt s (a + k)) : numAt t a n = numAt s a n := by
  rw [numAt, numAt, List.map_congr_left fun k hk => h k (List.mem_range.mp hk)]

/-- The first entries of a table. -/
theorem take_toList {α : Type} {size : Nat} (t : Vector α size) {n : Nat} (hn : n ≤ size) (d : α) :
    t.toList.take n = (List.range n).map fun i => tabGet t i d := by
  refine List.ext_getElem (by simp [hn]) fun i hi _ => ?_
  have hlt : i < size := by
    simp only [List.length_take, Vector.length_toList] at hi
    omega
  simp [tabGet, hlt]

/-- State `u` while the frame of `s` is assembled: memory, whose detection matrix is that of `s`, and descriptors alone have changed. -/
structure Assembling (s u : State) : Prop where
  frame : u = { s with mem := u.mem, outDesc := u.outDesc }
  matrix : ∀ a, InBuffer s.act 5 a → byteAt u a = byteAt s a

/-- State `u` with the payloads described by `ds` assembled. -/
structure Assembled (s u : State) (mem : Nat → Byte) (ds : List OutDesc) : Prop extends Assembling s u where
  bytes : ∀ a, byteAt u a = mem a
  table : ∀ k, k < 6 → tabGet u.outDesc k default = listGet ds k (tabGet s.outDesc k default)

/-- What the claim assumes of the state OUT.ASM runs in. -/
structure Ready (s : State) : Prop where
  layout : LegalLayout s.act s.spaces
  mayRead : ∀ k, k < 18 → MayRead s (s.buf k) (bufferSize s.act k)
  mayWrite : ∀ k, k < 18 → MayWrite s (s.buf k) (bufferSize s.act k)

section
variable {s u v : State} (hs : Ready s)
include hs

/-- A payload's buffer is written without touching the detection matrix. -/
theorem assembling_stores (hu : Assembling s u) {k : Nat} (hk : 14 ≤ k ∧ k < 18) {i : Nat} {bs : List Byte}
    (hfit : i + bs.length ≤ bufferSize s.act k) (h : Stores u v (s.buf k + i) bs) : Assembling s v := by
  obtain ⟨hv, hbytes⟩ := h
  refine ⟨by rw [hv, hu.frame], fun a ha => ?_⟩
  have hout : ¬ InBuffer s.act k a := by
    refine buffers_disjoint hs.layout (by omega) hk.2 ?_ ha
    obtain ⟨h14, h18⟩ := hk
    interval_cases k <;> decide
  have hbase : s.buf k = baseOf s.act k := rfl
  rw [hbytes, if_neg (by omega), hu.matrix a ha]

theorem buffer_writable (hu : Assembling s u) {k al n : Nat} (hk : k < 18) (hal : al ∣ 8) (hn : n ≤ bufferSize s.act k) :
    Writable u (s.buf k) n al := by
  obtain ⟨⟨halign, -⟩, -⟩ := hs.layout.1 k hk
  rw [hu.frame]
  exact ⟨Nat.mod_eq_zero_of_dvd (hal.trans (Nat.dvd_of_mod_eq_zero halign)), buffer_admits hs.layout true hk hn,
    fun j hj => hs.mayWrite k hk j (by omega)⟩

/-- Elements stored from the start of a buffer. -/
theorem writeBlock_buffer (hu : Assembling s u) {α : Type} {k al size : Nat} (bits : α → Nat) (xs : List α) (hk : k < 18) (hal : al ∣ 8)
    (hdvd : al ∣ size) (hsize : 1 ≤ size) (hfit : size * xs.length ≤ bufferSize s.act k) :
    ∃ v, writeBlock al size bits (s.buf k) xs u = .ok () v ∧ Stores u v (s.buf k) (blockBytes size bits xs) :=
  writeBlock_ok hdvd hsize bits (buffer_writable hs hu hk hal hfit)

/-- The zero-velocity cell of a range bin is read as it was before the frame was assembled. -/
theorem rdU16_zeroLine (hnd : 1 ≤ s.nd) (hu : Assembling s u) {r : Nat} (hr : r < s.nr) :
    rdU16 (s.detAddr r 0) u = .ok (numAt s (s.buf 5 + 2 * (r * s.nd)) 2) u := by
  have hread : MatrixReadable u := by
    obtain ⟨⟨halign, -⟩, -⟩ := hs.layout.1 5 (by decide)
    rw [hu.frame]
    have heven : s.buf 5 % 2 = 0 := Nat.mod_eq_zero_of_dvd ((by decide : 2 ∣ 8).trans (Nat.dvd_of_mod_eq_zero halign))
    exact ⟨hnd, heven, buffer_admits hs.layout false (k := 5) (by decide) le_rfl, hs.mayRead 5 (by decide)⟩
  have hcell := rdU16_cell (r := r) (d := 0) hread (by rw [hu.frame]; exact hr) hread.1
  have hbuf : u.buf 5 = s.buf 5 := by rw [hu.frame]; rfl
  have hund : u.nd = s.nd := by rw [hu.frame]; rfl
  have haddr : u.detAddr r 0 = s.detAddr r 0 := by rw [State.detAddr, State.detAddr, hbuf, hund]
  rw [haddr, hbuf, hund, Nat.add_zero] at hcell
  rw [hcell]
  congr 1
  refine numAt_congr fun k hk => hu.matrix _ ?_
  have hin : r * s.nd + s.nd ≤ s.nr * s.nd := (Nat.succ_mul r s.nd).symm.le.trans (Nat.mul_le_mul_right s.nd hr)
  have hsize : bufferSize s.act 5 = 2 * (s.nr * s.nd) := Nat.mul_assoc 2 s.nr s.nd
  have hbase : s.buf 5 = baseOf s.act 5 := rfl
  omega

/-- The range profile copied cell by cell (R332). -/
theorem copyRangeProfile_ok (hnd : 1 ≤ s.nd) (n i : Nat) (hn : i + n ≤ s.nr) (hu : Assembling s u) :
    ∃ v, copyRangeProfile s (List.range' i n) u = .ok () v
      ∧ Stores u v (s.buf 14 + 2 * i) (u16Bytes ((List.range' i n).map fun r => numAt s (s.buf 5 + 2 * (r * s.nd)) 2)) := by
  induction n generalizing i u with
  | zero => exact ⟨u, rfl, stores_nil u _⟩
  | succ n ih =>
    have hsize : bufferSize s.act 14 = 2 * s.nr := rfl
    obtain ⟨hal, hin, hmay⟩ := buffer_writable hs hu (k := 14) (al := 2) (by decide) (by decide) le_rfl
    obtain ⟨w, hwrite, hstore⟩ := elemWrite_ok (s := u) (al := 2) (size := 2) (addr := s.buf 14 + 2 * i) id
      (numAt s (s.buf 5 + 2 * (i * s.nd)) 2)
      ⟨mul_mod_zero (by decide) hal, admits_part hin (by decide) (by omega), mayWrite_part hmay (by omega)⟩
    have hw : Assembling s w := assembling_stores hs hu (k := 14) (by decide) (by rw [length_leBytes]; omega) hstore
    obtain ⟨v, hrest, hstores⟩ := ih (i + 1) (by omega) hw
    refine ⟨v, ?_, stores_append hstore ?_⟩
    · rw [List.range'_succ, copyRangeProfile, seqr_bind, rdU16_zeroLine hs hnd hu (by omega), thenWith_ok, seqr_bind, wrU16_eq, hwrite,
        thenWith_ok, hrest]
    · rw [length_leBytes]
      exact hstores

theorem copyRangeProfile_zeroLine (hnd : 1 ≤ s.nd) (hu : Assembling s u) :
    ∃ v, copyRangeProfile s (List.range s.nr) u = .ok () v ∧ Stores u v (s.buf 14) (u16Bytes (zeroLine s)) := by
  rw [zeroLine, List.range_eq_range']
  exact copyRangeProfile_ok hs hnd s.nr 0 (by omega) hu

/-- The noise profile (R332). -/
theorem writeNoiseProfile_ok (hnd : 1 ≤ s.nd) (hu : Assembling s u) :
    ∃ v, writeNoiseProfile s u = .ok () v ∧ Stores u v (s.buf 15) (noisePayload s) := by
  have hread : readEach (fun r => rdU16 (s.detAddr r 0)) (List.range s.nr) u = .ok (zeroLine s) u :=
    readEach_ok _ _ _ _ fun r hr => rdU16_zeroLine hs hnd hu (List.mem_range.mp hr)
  obtain ⟨v, hwrite, hstore⟩ := writeBlock_buffer hs hu (k := 15) (al := 2) (size := 2) id
    ((List.range s.nr).map fun r => (satu16 (cfarNoise s.act.cfarRng (zeroLine s) r)).toNat) (by decide) (by decide) (by decide) (by decide)
    (by rw [List.length_map, List.length_range]; exact le_rfl)
  refine ⟨v, ?_, ?_⟩
  · rw [writeNoiseProfile, seqr_bind, hread, thenWith_ok, wrU16_eq]
    exact hwrite
  · have hpayload : noisePayload s
        = u16Bytes ((List.range s.nr).map fun r => (satu16 (cfarNoise s.act.cfarRng (zeroLine s) r)).toNat) := by
      simp only [noisePayload, Cfar.cfarNoise_eq]
      push_cast
      rfl
    rw [hpayload]
    exact hstore

/-- The statistics (R333). -/
theorem writeStats_ok (hu : Assembling s u) :
    ∃ v, writeEach (fun j x => memWrite (s.buf 17 + 4 * j) 4 x) 0 s.statsWords u = .ok () v ∧ Stores u v (s.buf 17) (statsPayload s) := by
  have helem : (fun j x => memWrite (s.buf 17 + 4 * j) 4 x) = fun j x => elemWrite 1 4 id (s.buf 17 + 4 * j) x := by
    funext j x t
    rw [elemWrite, seqr_bind, aligned_eq, if_pos (Nat.mod_one _), thenWith_ok]
    rfl
  obtain ⟨v, hwrite, hstore⟩ := writeBlock_buffer hs hu (k := 17) (al := 1) (size := 4) id s.statsWords (by decide) (by decide) (by decide)
    (by decide) le_rfl
  rw [helem]
  exact ⟨v, hwrite, hstore⟩

/-- The detected objects (R331). -/
theorem writeObjects_ok (hcount : s.numObjOut.toNat ≤ 100) (hu : Assembling s u) :
    ∃ v, writeEach (fun j x => wrU16 (s.buf 16 + 2 * j) x) 0 s.objFields u = .ok () v ∧ Stores u v (s.buf 16) (objPayload s) := by
  have hfields : s.objFields = [s.numObjOut.toNat, s.act.xyzQ.toNat] ++ (List.range s.numObjOut.toNat).flatMap fun i =>
      let o := tabGet s.objOut i default
      [o.range.toNat, o.doppler.toNat, o.peak.toNat, o.x.toNat, o.y.toNat, o.z.toNat] := by
    rw [State.objFields, Nat.mod_eq_of_lt (by omega)]
    rw [take_toList s.objOut (by omega) default, List.flatMap_map]
  have hlength : s.objFields.length = 2 + s.numObjOut.toNat * 6 := by
    rw [hfields]
    simp only [List.length_append, List.length_cons, List.length_nil, List.length_flatMap, List.map_const', List.sum_replicate, List.length_range,
      smul_eq_mul]
  obtain ⟨v, hwrite, hstore⟩ := writeBlock_buffer hs hu (k := 16) (al := 2) (size := 2) id s.objFields (by decide) (by decide) (by decide)
    (by decide) (by have hsize : bufferSize s.act 16 = 1204 := rfl; omega)
  refine ⟨v, hwrite, ?_⟩
  rw [objPayload, ← hfields]
  exact hstore

end

/-! ## The payloads in turn (R330) -/

theorem payload_assembled {s u : State} (hs : Ready s) {mem : Nat → Byte} {ds : List OutDesc} (hu : Assembled s u mem ds) {sel : Bool}
    {work : Seqr Unit} {d : OutDesc} {k : Nat} {bs : List Byte} (hk : 14 ≤ k ∧ k < 18) (hlen : ds.length < 6)
    (hfit : bs.length ≤ bufferSize s.act k)
    (hwork : ∃ v, work u = .ok () v ∧ Stores u v (s.buf k) bs) :
    ∃ v, payload sel work d ds.length u = .ok (ds ++ if sel then [d] else []).length v
      ∧ Assembled s v (laidIf sel (s.buf k) bs mem) (ds ++ if sel then [d] else []) := by
  cases sel with
  | false =>
    refine ⟨u, ?_, ?_⟩
    · simp only [Bool.false_eq_true, if_false, List.append_nil]
      rfl
    · simp only [Bool.false_eq_true, if_false, List.append_nil]
      exact hu
  | true =>
    obtain ⟨v, hdo, hstore⟩ := hwork
    have hv : Assembling s v := assembling_stores hs hu.toAssembling hk (i := 0) (by omega) hstore
    refine ⟨{ v with outDesc := tabSet v.outDesc ds.length d }, ?_, ⟨⟨?_, ?_⟩, ?_, ?_⟩⟩
    · have hvalue : payload true work d ds.length = (work >>= fun _ =>
          modify (fun t => { t with outDesc := tabSet t.outDesc ds.length d }) >>= fun _ => pure (ds.length + 1)) := rfl
      rw [hvalue, seqr_bind, hdo, if_pos rfl, List.length_append]
      rfl
    · exact congrArg (fun w : State => { w with outDesc := tabSet v.outDesc ds.length d }) hv.frame
    · exact hv.matrix
    · intro a
      rw [laidIf, if_pos rfl, laid, ← hu.bytes]
      exact hstore.2 a
    · intro j hj
      have hsame : v.outDesc = u.outDesc := by rw [hstore.1]
      rw [tabGet_tabSet, hsame, if_pos rfl]
      by_cases hjd : ds.length = j
      · rw [if_pos ⟨hjd, by omega⟩, listGet_append_right (by omega), hjd, Nat.sub_self]
        rfl
      · rw [if_neg (by omega), hu.table j hj]
        rcases Nat.lt_or_ge j ds.length with hlt | hge
        · rw [listGet_append_left hlt]
        · rw [listGet_append_right hge, listGet, listGet, List.getD_eq_default _ _ hge, List.getD_eq_default _ _ (by
            rw [List.length_singleton]
            omega)]

/-- A payload that lies in memory already is listed alone. -/
theorem payload_listed {s u : State} (hs : Ready s) {mem : Nat → Byte} {ds : List OutDesc} (hu : Assembled s u mem ds) (sel : Bool)
    (d : OutDesc) (hlen : ds.length < 6) :
    ∃ v, payload sel (pure ()) d ds.length u = .ok (ds ++ if sel then [d] else []).length v
      ∧ Assembled s v mem (ds ++ if sel then [d] else []) := by
  have hnone : laidIf sel (s.buf 14) [] mem = mem := by
    have hlaid : laid (s.buf 14) [] mem = mem := funext fun a => if_neg (by simp only [List.length_nil]; omega)
    rw [laidIf, hlaid, ite_self]
  have h := payload_assembled hs hu (sel := sel) (work := pure ()) (d := d) (k := 14) (bs := []) (by decide) hlen (Nat.zero_le _)
    ⟨u, rfl, stores_nil u _⟩
  rw [hnone] at h
  exact h

theorem length_u16Bytes (xs : List Nat) : (u16Bytes xs).length = 2 * xs.length := by
  rw [u16Bytes, List.length_flatMap]
  simp only [length_leBytes, List.map_const', List.sum_replicate, smul_eq_mul, Nat.mul_comm]

theorem ok_bind {α β : Type} {m : Seqr α} {f : α → Seqr β} {s t : State} {a : α} {r : EStateM.Result Fatal State β} (hm : m s = .ok a t)
    (hf : f a t = r) : (m >>= f) s = r := by
  rw [seqr_bind, hm, thenWith_ok, hf]

/-- What OUT.ASM stores over the memory of a state, each payload with those below it. -/
def payloads (s : State) : Nat → Byte :=
  laid (s.buf 16) (objPayload s) (laidIf (s.act.monSel.getLsbD 0) (s.buf 14) (u16Bytes (zeroLine s))
    (laidIf (s.act.monSel.getLsbD 1) (s.buf 15) (noisePayload s) (laidIf (s.act.monSel.getLsbD 4) (s.buf 17) (statsPayload s) (byteAt s))))

theorem length_objPayload {s : State} (hcount : s.numObjOut.toNat ≤ 100) : (objPayload s).length ≤ 1204 := by
  rw [objPayload, length_u16Bytes]
  simp only [List.length_append, List.length_cons, List.length_nil, List.length_flatMap, List.map_const', List.sum_replicate,
    List.length_range, smul_eq_mul]
  omega

section
variable {s : State} (hs : Ready s) (hlog : s.logAvail = true) (hnd : 1 ≤ s.nd) (hcount : s.numObjOut.toNat ≤ 100)
include hs hlog hnd hcount

theorem assembleOutput_ok :
    ∃ u, assembleOutput s = .ok () (u.publish (descriptors s).length) ∧ Assembled s u (payloads s) (descriptors s) := by
  have hstart : Assembled s s (byteAt s) [] := ⟨⟨rfl, fun _ _ => rfl⟩, fun _ => rfl, fun _ _ => rfl⟩
  have hlen16 : (objPayload s).length ≤ bufferSize s.act 16 := length_objPayload hcount
  have hlen14 : (u16Bytes (zeroLine s)).length ≤ bufferSize s.act 14 := by
    rw [length_u16Bytes, zeroLine, List.length_map, List.length_range]
    exact le_rfl
  have hlen15 : (noisePayload s).length ≤ bufferSize s.act 15 := by
    rw [noisePayload, length_u16Bytes, List.length_map, List.length_range]
    exact le_rfl
  have hlen17 : (statsPayload s).length ≤ bufferSize s.act 17 := le_rfl
  have hlist {ds : List OutDesc} {n : Nat} (h : ds.length ≤ n) (b : Bool) (d : OutDesc) : (ds ++ if b then [d] else []).length ≤ n + 1 := by
    cases b <;> simp only [Bool.false_eq_true, if_false, if_true, List.append_nil, List.length_append, List.length_singleton] <;> omega
  have h1 := hlist (ds := []) (n := 0) le_rfl true (outDesc 1 (4 + 12 * s.numObjOut.toNat) (s.buf 16))
  have h2 := hlist h1 (s.act.monSel.getLsbD 0) (outDesc 2 (2 * s.nr) (s.buf 14))
  have h3 := hlist h2 (s.act.monSel.getLsbD 1) (outDesc 3 (2 * s.nr) (s.buf 15))
  have h4 := hlist h3 (s.act.monSel.getLsbD 2) (outDesc 4 (8 * s.nr * s.nv) (s.buf 13))
  have h5 := hlist h4 (s.act.monSel.getLsbD 3) (outDesc 5 (2 * s.nr * s.nd) (s.buf 5))
  obtain ⟨u1, hp1, hu1⟩ := payload_assembled hs hstart (sel := true) (d := outDesc 1 (4 + 12 * s.numObjOut.toNat) (s.buf 16)) (k := 16)
    (by decide) (by decide) hlen16 (writeObjects_ok hs hcount hstart.toAssembling)
  obtain ⟨u2, hp2, hu2⟩ := payload_assembled hs hu1 (sel := s.act.monSel.getLsbD 0) (d := outDesc 2 (2 * s.nr) (s.buf 14)) (k := 14)
    (by decide) (by omega) hlen14 (copyRangeProfile_zeroLine hs hnd hu1.toAssembling)
  obtain ⟨u3, hp3, hu3⟩ := payload_assembled hs hu2 (sel := s.act.monSel.getLsbD 1) (d := outDesc 3 (2 * s.nr) (s.buf 15)) (k := 15)
    (by decide) (by omega) hlen15 (writeNoiseProfile_ok hs hnd hu2.toAssembling)
  obtain ⟨u4, hp4, hu4⟩ := payload_listed hs hu3 (s.act.monSel.getLsbD 2) (outDesc 4 (8 * s.nr * s.nv) (s.buf 13)) (by omega)
  obtain ⟨u5, hp5, hu5⟩ := payload_listed hs hu4 (s.act.monSel.getLsbD 3) (outDesc 5 (2 * s.nr * s.nd) (s.buf 5)) (by omega)
  obtain ⟨u6, hp6, hu6⟩ := payload_assembled hs hu5 (sel := s.act.monSel.getLsbD 4) (d := outDesc 6 32 (s.buf 17)) (k := 17)
    (by decide) (by omega) hlen17 (writeStats_ok hs hu5.toAssembling)
  refine ⟨u6, ?_, ?_⟩
  · have hbody : assembleOutput s = (if s.logAvail = true then _ else modify State.drop : Seqr Unit) s := rfl
    rw [hbody, if_pos hlog]
    exact ok_bind hp1 (ok_bind hp2 (ok_bind hp3 (ok_bind hp4 (ok_bind hp5 (ok_bind hp6 rfl)))))
  · have hapart {j k : Nat} {as bs : List Byte} (hjk : j < k ∧ k < 18 ∧ 14 ≤ j) (has : as.length ≤ bufferSize s.act j)
        (hbs : bs.length ≤ bufferSize s.act k) (c : Nat) :
        ¬((s.buf j ≤ c ∧ c < s.buf j + as.length) ∧ s.buf k ≤ c ∧ c < s.buf k + bs.length) := by
      rintro ⟨⟨hj, hj'⟩, hk, hk'⟩
      have hphase : listGet phases j 0 + listGet phases k 0 ≠ 3 := by
        obtain ⟨hlt, h18, h14⟩ := hjk
        interval_cases k <;> interval_cases j <;> decide
      exact buffers_disjoint hs.layout hjk.1 hjk.2.1 hphase ⟨hj, lt_of_lt_of_le hj' (Nat.add_le_add_left has _)⟩
        ⟨hk, lt_of_lt_of_le hk' (Nat.add_le_add_left hbs _)⟩
    have horder : payloads s = laidIf (s.act.monSel.getLsbD 4) (s.buf 17) (statsPayload s)
        (laidIf (s.act.monSel.getLsbD 1) (s.buf 15) (noisePayload s)
          (laidIf (s.act.monSel.getLsbD 0) (s.buf 14) (u16Bytes (zeroLine s)) (laidIf true (s.buf 16) (objPayload s) (byteAt s)))) := by
      rw [laidIf_comm _ true (hapart (by decide) hlen14 hlen16), laidIf_comm _ true (hapart (by decide) hlen15 hlen16),
        ← laidIf_comm true _ (hapart (by decide) hlen16 hlen17), ← laidIf_comm _ _ (hapart (by decide) hlen14 hlen15),
        ← laidIf_comm _ _ (hapart (by decide) hlen14 hlen17), ← laidIf_comm _ _ (hapart (by decide) hlen15 hlen17)]
      rfl
    rw [horder]
    exact hu6

end

theorem published_eq {s u : State} (h : Assembling s u) : u.published = ⟨results.map (placed s), true, true⟩ := by
  rw [h.frame]
  have hplace {k : Nat} (hk : k < 18) : s.placeOf k = placed s k := by
    rw [State.placeOf, bufSize_eq _ hk]
    rfl
  have hall : resultBuffers.map s.placeOf = results.map (placed s) :=
    List.map_congr_left fun k hk => hplace (by revert k; decide)
  exact congrArg (fun l => (⟨l, true, true⟩ : Window)) hall

/-- Settles O57: the payloads one after the other (`assembleOutput_ok`), each over its own buffer. -/
theorem publishedFrame : Obligations.PublishedFrame := by
  intro s hmode hlog hlegal hcount hmay ds into put
  have hs : Ready s := ⟨hlegal.2, fun k hk => (hmay k hk).1, fun k hk => (hmay k hk).2⟩
  have hnd : 1 ≤ s.nd := by
    obtain ⟨-, h16, -⟩ : CheckHolds s.act 5 := hlegal.1 5 (by decide)
    exact Nat.le_trans (by decide) h16
  obtain ⟨u, hbody, hu⟩ := assembleOutput_ok hs hlog hnd hcount
  refine ⟨_, exec_done (i := .outAsm) rfl (by rw [hmode]; rfl) hbody, ?_, hu.table, fun a => ?_⟩
  · rw [State.publish, published_eq hu.toAssembling, hu.frame]
    rfl
  · rw [show byteAt (u.publish (descriptors s).length) a = payloads s a from hu.bytes a]
    simp only [payloads, laid, laidIf_apply]
    rfl

end Sys2Proof.Proofs.Publish
end

section
/-! SUPPORT. The Doppler pass of the inter-frame sequence (R323 to R325). -/

namespace Sys2Proof.Proofs.DopplerPass

open Sys2Proof.Machine Sys2Proof.Claim Sys2Proof.Proofs.Carry Sys2Proof.Proofs.Control Sys2Proof.Proofs.CommandPort
  Sys2Proof.Proofs.Access Sys2Proof.Proofs.Transform Sys2Proof.Proofs.Relabel Sys2Proof.Proofs.Detector Sys2Proof.Proofs.Chirp
  Sys2Proof.Proofs.Publish

set_option Elab.async false

/-! ## The way on -/

/-- The end of a range bin and the way on (R325). -/
def rangeBinEnd (items nv idx : Nat) (byCmd : Bool) : Seqr Flow :=
  dopTail (idx / nv) >>= fun _ => pure (.pos (.frame (if idx + 1 < items then .s2 (idx + 1) else .s3) byCmd))

/-- What follows an item: at the last antenna of a range bin its end, after a wait from the third bin on (R323, R325). -/
def afterItem (items nv idx : Nat) (byCmd : Bool) : Seqr Flow :=
  if idx % nv + 1 = nv then
    if 2 ≤ idx / nv then awaitThen (6 + idx / nv % 2) (.frame (.s2tail idx) byCmd) (rangeBinEnd items nv idx byCmd)
    else rangeBinEnd items nv idx byCmd
  else pure (.pos (.frame (if idx + 1 < items then .s2 (idx + 1) else .s3) byCmd))

theorem framePhase_s2 (idx : Nat) (byCmd : Bool) (s : State) : framePhase (.s2 idx) byCmd s =
    awaitThen (4 + idx % 2) (.frame (.s2body idx) byCmd) (dopItem idx >>= fun _ => afterItem (s.nr * s.nv) s.nv idx byCmd) s := rfl

theorem framePhase_s2body (idx : Nat) (byCmd : Bool) (s : State) :
    framePhase (.s2body idx) byCmd s = (dopItem idx >>= fun _ => afterItem (s.nr * s.nv) s.nv idx byCmd) s := rfl

theorem framePhase_s2tail (idx : Nat) (byCmd : Bool) (s : State) :
    framePhase (.s2tail idx) byCmd s = rangeBinEnd (s.nr * s.nv) s.nv idx byCmd s := rfl

theorem blind_rangeBinEnd (items nv idx : Nat) (byCmd : Bool) (l : Labels) : Blind l (rangeBinEnd items nv idx byCmd) :=
  blind_bind (blind_dopTail _) fun _ => blind_pure _

theorem blind_afterItem (items nv idx : Nat) (byCmd : Bool) (l : Labels) : Blind l (afterItem items nv idx byCmd) :=
  blind_ite _ (blind_ite _ (blind_awaitThen _ _ (blind_rangeBinEnd items nv idx byCmd l)) (blind_rangeBinEnd items nv idx byCmd l))
    (blind_pure _)

section
variable {s u : State}

/-! ## One item -/

/-- The zero-Doppler bin stored and the log-magnitudes accumulated: an item after its prefetch (R323, R324). -/
theorem dopItem_ok {idx : Nat}
    (hprefetch : (if idx + 1 < s.dopItems then dopFetch s (idx + 1) else pure ()) s = .ok () u) (hu : u = { s with dma := u.dma })
    (hread : Readable u (s.buf (6 + idx % 2)) (4 * s.nd) 4) (hwrite : Writable u (s.heatAddr (idx / s.nv) (idx % s.nv)) 8 8) :
    let X := dopplerSpectrum s (c16sAt s (s.buf (6 + idx % 2)) s.nd)
    ∃ w, Stores u w (s.heatAddr (idx / s.nv) (idx % s.nv)) (c32Bytes [listGet X 0 Cx.zero])
      ∧ dopItem idx s = .ok ()
        { w with
          frameScr := { s.frameScr with
            acc := (List.range s.nd).map fun d =>
              (if idx % s.nv = 0 then 0 else listGet s.frameScr.acc d 0) + logMag (listGet X d Cx.zero) }
          window := without s 13 } := by
  intro X
  have hsame : c16sAt u (s.buf (6 + idx % 2)) s.nd = c16sAt s (s.buf (6 + idx % 2)) s.nd := by rw [hu]; rfl
  have hblock : readC16s (s.buf (6 + idx % 2)) s.nd u = .ok (c16sAt s (s.buf (6 + idx % 2)) s.nd) u := by
    rw [← hsame]
    exact readBlock_ok (by decide) (by decide) (cxOf 16) hread
  obtain ⟨w, hrun, hstore⟩ := elemWrite_ok (cxBits 32) (listGet X 0 Cx.zero) hwrite
  refine ⟨w, hstore, ?_⟩
  have hw : w.frameScr = s.frameScr ∧ w.window = s.window := by
    rw [hstore.1, hu]
    exact ⟨rfl, rfl⟩
  rw [dopItem_eq, seqr_bind, seqr_get, thenWith_ok, seqr_bind, hprefetch, thenWith_ok, seqr_bind, hblock, thenWith_ok, seqr_bind,
    dopplerFft_eq, wrC32_eq, hrun, thenWith_ok, seqr_modify]
  rw [hw.1, hw.2, close_placeOf s (by decide), accumulate]
  simp only [beq_iff_eq]
  rfl

/-! ## The end of a range bin -/

theorem dopTail_ok {r : Nat} (hconf : (s.chan (6 + r % 2)).configured = true) (hidle : (s.chan (6 + r % 2)).xfer = .idle)
    (hlen : s.frameScr.acc.length ≤ 1024) (hwrite : Writable s (s.buf (8 + r % 2)) (2 * s.frameScr.acc.length) 2) :
    ∃ w z, Stores s w (s.buf (8 + r % 2)) (u16Bytes s.frameScr.acc) ∧ dopTail r s = .ok () z
      ∧ z = { w.setChan (6 + r % 2) (restarted (s.chan (6 + r % 2)) (BitVec.ofNat 32 (s.buf (8 + r % 2)))
            (BitVec.ofNat 32 (s.buf 5 + 2 * (r * s.nd)))) with
          bmpWord := z.bmpWord, window := without s 5 }
      ∧ ∀ j, z.bmpBit j = (s.bmpBit j || decide (j ∈ cfar s.act.cfarDop s.frameScr.acc)) := by
  obtain ⟨w, hrun, hstore⟩ := writeBlock_ok (by decide) (by decide) id hwrite
  have hw : w = { s with mem := w.mem } := hstore.1
  have hmark := bmpMarkAll_eq w (cfar s.act.cfarDop s.frameScr.acc)
  have hchan : (w.bmpMarkAll (cfar s.act.cfarDop s.frameScr.acc)).chan (6 + r % 2) = s.chan (6 + r % 2) := by
    rw [hmark, hw]
    rfl
  have haddr : s.detAddr r 0 = s.buf 5 + 2 * (r * s.nd) := rfl
  refine ⟨w, { (w.bmpMarkAll (cfar s.act.cfarDop s.frameScr.acc)).setChan (6 + r % 2)
      (restarted (s.chan (6 + r % 2)) (BitVec.ofNat 32 (s.buf (8 + r % 2))) (BitVec.ofNat 32 (s.buf 5 + 2 * (r * s.nd)))) with
      window := without s 5 }, hstore, ?_, ?_, fun j => ?_⟩
  · have hbody : dopTail r s = (writeBlock 2 2 id (s.buf (8 + r % 2)) s.frameScr.acc >>= fun _ =>
        modify (fun u => u.bmpMarkAll (cfar s.act.cfarDop s.frameScr.acc)) >>= fun _ =>
          dmaRetrig (6 + r % 2) (s.buf (8 + r % 2)) (s.detAddr r 0) >>= fun _ =>
            modify fun u => { u with window := u.window.close (s.placeOf 5) }) s := rfl
    have hwindow : (w.bmpMarkAll (cfar s.act.cfarDop s.frameScr.acc)).window = s.window := by
      rw [hmark, hw]
    rw [hbody, seqr_bind, hrun, thenWith_ok, seqr_bind, seqr_modify, thenWith_ok, seqr_bind,
      dmaRetrig_ok _ _ (by omega) (by rw [hchan]; exact hconf) (by rw [hchan]; exact hidle), thenWith_ok, seqr_modify, hchan, haddr]
    dsimp only
    rw [setChan_window, hwindow, close_placeOf s (by decide)]
  · rw [hmark]
    rfl
  · have hbit : (w.bmpMarkAll (cfar s.act.cfarDop s.frameScr.acc)).bmpBit j = _ :=
      bmpBit_bmpMarkAll w (fun i hi => lt_of_lt_of_le (cfar_lt hi) hlen) j
    have hold : w.bmpBit j = s.bmpBit j := by
      rw [hw]
      rfl
    rw [hold] at hbit
    exact hbit

end

/-- Settles O55: an item by `dopItem_ok`, the end of a range bin by `dopTail_ok`, the waits before them. -/
theorem dopplerPassSteps : Obligations.DopplerPassSteps := by
  intro s byCmd idx hgeo hidx r v row next u src dst X start after moved
  refine ⟨fun hseq => ⟨fun hd => ?_, fun hd => ?_⟩, fun hseq hfree hread hwrite => ?_, fun hseq hconf hidle hlen hwrite => ?_⟩
  · rw [seqStep_of_pos hseq, runPos, settle_congr (framePhase_s2 idx byCmd s), settle_awaitThen_wait (by omega) _ hd]
  · rw [seqStep_of_pos hseq, runPos, settle_congr (framePhase_s2 idx byCmd s), settle_awaitThen_done (by omega) _ hd,
      seqStep_of_pos (q := .frame (.s2body idx) byCmd) rfl, runPos, settle_congr (framePhase_s2body idx byCmd _)]
    exact congrArg Host.Outcome.next (settle_seq (fun l => blind_bind (blind_dopItem idx) fun _ =>
      blind_afterItem (s.nr * s.nv) s.nv idx byCmd l) (freed s (4 + idx % 2)) _).symm
  · have hu : u = { s with dma := u.dma } := by
      simp only [u]
      split <;> rfl
    have hprefetch : (if idx + 1 < s.dopItems then dopFetch s (idx + 1) else pure ()) s = .ok () u := by
      simp only [u]
      by_cases hnext : idx + 1 < s.nr * s.nv
      · obtain ⟨hconf, hidle⟩ := hfree hnext
        rw [if_pos hnext, if_pos (show idx + 1 < s.dopItems from hnext), dopFetch, dmaRetrig_ok _ _ (by omega) hconf hidle]
        rfl
      · rw [if_neg hnext, if_neg (show ¬ idx + 1 < s.dopItems from hnext)]
        rfl
    obtain ⟨w, hstore, hrun⟩ := dopItem_ok hprefetch hu hread hwrite
    refine ⟨w, hstore, ?_⟩
    intro y
    have hphase : settle (runPos (.frame (.s2body idx) byCmd)) s = settle (afterItem (s.nr * s.nv) s.nv idx byCmd) y := by
      rw [runPos]
      refine settle_congr ((framePhase_s2body idx byCmd s).trans ?_)
      rw [seqr_bind, hrun]
      rfl
    have hafter : afterItem (s.nr * s.nv) s.nv idx byCmd = if v + 1 = s.nv then (if 2 ≤ r then
        awaitThen row (.frame (.s2tail idx) byCmd) (rangeBinEnd (s.nr * s.nv) s.nv idx byCmd) else rangeBinEnd (s.nr * s.nv) s.nv idx byCmd)
        else pure (.pos (.frame after byCmd)) := rfl
    have hdma : w.dma = u.dma := by rw [hstore.1]
    have hw : w.act = u.act := by rw [hstore.1]
    have hact : y.act = s.act := hw.trans (by rw [hu])
    have hrow : y.chan row = s.chan row := by
      have hu' : u.chan row = s.chan row := by
        simp only [u]
        split
        · rw [chan_setChan _ _ _ _ (by omega), if_neg (by omega)]
        · rfl
      rw [← hu', State.chan, State.chan, ← hdma]
    have htail (z : State) (hz : z.act = s.act) :
        seqStep (moved z (.s2tail idx)) = .next (settle (rangeBinEnd (s.nr * s.nv) s.nv idx byCmd) z) := by
      have hnv : (moved z (.s2tail idx)).nv = s.nv ∧ (moved z (.s2tail idx)).nr = s.nr := by
        simp only [moved, State.nv, State.nr, State.nrx, State.ntx, hz, and_self]
      rw [seqStep_of_pos (q := .frame (.s2tail idx) byCmd) rfl, runPos, settle_congr (framePhase_s2tail idx byCmd _), hnv.1, hnv.2]
      exact congrArg Host.Outcome.next (settle_seq (blind_rangeBinEnd (s.nr * s.nv) s.nv idx byCmd) z _)
    rw [seqStep_of_pos hseq, hphase, hafter]
    refine ⟨fun hv => ?_, fun hv hr => ?_, fun hv hr hd => ?_, fun hv hr hd => ?_⟩
    · rw [if_neg hv]
      rfl
    · rw [if_pos hv, if_neg (by omega), htail y hact]
    · rw [if_pos hv, if_pos hr, settle_awaitThen_done (by omega) _ (by rw [hrow]; exact hd), htail (freed y row) hact]
    · rw [if_pos hv, if_pos hr, settle_awaitThen_wait (by omega) _ (by rw [hrow]; exact hd)]
  · have hnd : s.frameScr.acc.length ≤ 1024 := by
      obtain ⟨-, -, h1024⟩ : CheckHolds s.act 5 := hgeo 5 (by decide)
      rw [hlen]
      exact h1024
    obtain ⟨w, z, hstore, hrun, hz, hbit⟩ := dopTail_ok hconf hidle hnd (by rw [hlen]; exact hwrite)
    refine ⟨w, z, hstore, ?_, hz, hbit⟩
    have hphase : rangeBinEnd (s.nr * s.nv) s.nv idx byCmd s = .ok (.pos (.frame after byCmd)) z := by
      rw [rangeBinEnd, seqr_bind, hrun]
      rfl
    rw [seqStep_of_pos hseq, runPos, settle_congr (framePhase_s2tail idx byCmd s), settle_pos hphase]

end Sys2Proof.Proofs.DopplerPass
end

section
/-! SUPPORT. The inter-frame sequence, step by step, by the commands whose bodies it runs (R320 to R322, R326 to R328). -/

namespace Sys2Proof.Proofs.FrameSequence

open Sys2Proof.Machine Sys2Proof.Claim Sys2Proof.Proofs.Nop Sys2Proof.Proofs.Bitmap Sys2Proof.Proofs.Carry Sys2Proof.Proofs.Steps
  Sys2Proof.Proofs.Control Sys2Proof.Proofs.CommandPort Sys2Proof.Proofs.Relabel Sys2Proof.Proofs.Chirp Sys2Proof.Proofs.Angle
  Sys2Proof.Proofs.Detector

set_option Elab.async false

/-! ## The bits of the bitmap counted (R150) -/

theorem popcount_word (s : State) (w : Nat) :
    popcount 32 (tabGet s.bmpWord w 0).toNat = (((List.range 32).map (32 * w + ·)).filter s.bmpBit).length := by
  rw [popcount, List.filter_map, List.length_map]
  congr 1
  refine List.filter_congr fun i hi => ?_
  have hlt := List.mem_range.mp hi
  rw [Function.comp_apply, State.bmpBit, Nat.mul_add_div (by decide), Nat.div_eq_of_lt hlt, Nat.mul_add_mod, Nat.mod_eq_of_lt hlt,
    Nat.add_zero]
  rfl

theorem popcounts_eq (s : State) (n : Nat) : ((List.range n).map fun w => popcount 32 (tabGet s.bmpWord w 0).toNat).sum
    = ((List.range (32 * n)).filter s.bmpBit).length := by
  induction n with
  | zero => rfl
  | succ n ih =>
    rw [List.range_succ, List.map_append, List.sum_append, ih, Nat.mul_succ, List.range_add, List.filter_append, List.length_append,
      ← popcount_word]
    simp

theorem bmpCount_eq (s : State) : s.bmpCount = ((List.range (32 * max (s.nd / 32) 1)).filter s.bmpBit).length := popcounts_eq s _

/-! ## A command's body inside a sequence (R320) -/

theorem not_halt_of_done {s t : State} {f : Fatal} (h : (Host.Outcome.next (s.fatal f) : Host.Outcome State Fault Refusal) = .next (done t)) :
    False := by
  have hseq : Seq.halt = Seq.idle := congrArg State.seq (Host.Outcome.next.inj h)
  exact nomatch hseq

/-- A completed command's state, but for the two registers completion writes. -/
theorem eq_of_done {s t : State} (h : (Host.Outcome.next (done s) : Host.Outcome State Fault Refusal) = .next (done t)) :
    t = { s with seq := t.seq, irqStatus := t.irqStatus } :=
  congrArg (fun u : State => { u with seq := t.seq, irqStatus := t.irqStatus }) (Host.Outcome.next.inj h).symm

/-- A body that completes as a command on relabelled registers answers on the state itself, with its registers, and the command's
state is that state relabelled and finished. -/
theorem run_of_done {α : Type} {m : Seqr α} (hm : ∀ l, Blind l m) {k : α → Seqr Flow} {f : α → State → State}
    (hk : ∀ a w, k a w = .ok (.finish true) (f a w)) (l : Labels) {s t : State}
    (h : (Host.Outcome.next (settle (m >>= k) (l.on s)) : Host.Outcome State Fault Refusal) = .next (done t)) :
    ∃ a u, m s = .ok a u ∧ u = (labelsOf s).on u ∧ t = { f a (l.on u) with seq := t.seq, irqStatus := t.irqStatus } := by
  have hlabels := labels_of_blind hm s
  rw [settle, seqr_bind, hm l s] at h
  cases hrun : m s with
  | error e u =>
    rw [hrun] at h
    exact absurd h not_halt_of_done
  | ok a u =>
    rw [hrun] at h hlabels
    refine ⟨a, u, rfl, hlabels, ?_⟩
    rw [mapState, thenWith_ok, hk] at h
    exact eq_of_done h

section
variable {s t u : State}

/-- The registers of a state in the mode commands of the inter-frame sequence run in. -/
def commandLabels (s : State) : Labels := ⟨.configured, s.seq, s.arg, s.argPast, s.res0, s.res1, id⟩

theorem exec_configured (i : Instr) (hadm : admitted i .configured = true) (s : State) (hm : s.mode = .configured) :
    exec i s = .next (settle (bodyOf i) s) := by
  rw [exec_eq, command_admitted (by rw [hm]; exact hadm)]

/-- PKGRP.RUN (R327). -/
theorem groupRun_of_command (h : exec .pkgrpRun { s with mode := .configured } = .next (done t)) :
    ∃ u, groupRun s = .ok () u
      ∧ ∀ q, { u with seq := q } = { t with mode := s.mode, res0 := s.res0, irqStatus := s.irqStatus, seq := q } := by
  rw [exec_configured _ rfl _ rfl] at h
  have hbody : bodyOf .pkgrpRun
      = (groupRun >>= fun _ => get >>= fun v => setRes0 v.numObjOut.toNat >>= fun _ => pure (.finish true)) := by
    rw [bodyOf, thenDone, pkgrpBody]
    simp only [bind_assoc]
  rw [hbody] at h
  obtain ⟨_, u, hrun, hu, ht⟩ := run_of_done (m := groupRun) (f := fun _ w => { w with res0 := BitVec.ofNat 32 w.numObjOut.toNat })
    (fun _ => blind_groupRun) (fun _ _ => rfl) (commandLabels s) h
  refine ⟨u, hrun, fun q => ?_⟩
  rw [ht, hu]
  rfl

/-- The range pass: the body of CFAR.RNG on the fetched line (R326). -/
theorem cfarRngLine_of_command {src d : Nat} (hsrc : src < 2 ^ 32)
    (h : exec (.cfarRng d) { u with
      mode := .configured, arg := tabSet u.arg 0 (BitVec.ofNat 32 src), argPast := Vector.replicate 6 [] } = .next (done t)) :
    ∃ a v, cfarRngLine src d u = .ok a v ∧ v.frameScr = u.frameScr ∧ ∀ scr q, { v with frameScr := scr, seq := q } =
      { t with
        mode := u.mode, arg := u.arg, argPast := u.argPast, res0 := u.res0, res1 := u.res1, irqStatus := u.irqStatus
        frameScr := scr, seq := q } := by
  rw [exec_configured _ rfl _ rfl] at h
  have hoperand : (({ u with
      mode := .configured, arg := tabSet u.arg 0 (BitVec.ofNat 32 src), argPast := Vector.replicate 6 [] } : State).operand 0).toNat = src := by
    rw [operand_of_unwritten rfl, tabGet_tabSet, if_pos ⟨rfl, by decide⟩, BitVec.toNat_ofNat, Nat.mod_eq_of_lt hsrc]
  have hbody := cfarRngBody_eq d { u with
      mode := .configured, arg := tabSet u.arg 0 (BitVec.ofNat 32 src), argPast := Vector.replicate 6 [] }
  rw [hoperand] at hbody
  have hsettle : settle (bodyOf (.cfarRng d)) { u with
      mode := .configured, arg := tabSet u.arg 0 (BitVec.ofNat 32 src), argPast := Vector.replicate 6 [] }
      = settle (cfarRngLine src d >>= fun r => setRes0 r.1 >>= fun _ => setRes1 r.2 >>= fun _ => pure (.finish true)) { u with
        mode := .configured, arg := tabSet u.arg 0 (BitVec.ofNat 32 src), argPast := Vector.replicate 6 [] } := by
    refine settle_congr ?_
    rw [bodyOf, thenDone, seqr_bind, hbody, ← seqr_bind]
    simp only [bind_assoc]
  rw [hsettle] at h
  obtain ⟨a, v, hrun, hv, ht⟩ := run_of_done (f := fun r w => { w with res0 := BitVec.ofNat 32 r.1, res1 := BitVec.ofNat 32 r.2 })
    (fun _ => blind_cfarRngLine src d) (fun _ _ => rfl)
    ⟨.configured, u.seq, tabSet u.arg 0 (BitVec.ofNat 32 src), Vector.replicate 6 [], u.res0, u.res1, id⟩ h
  refine ⟨a, v, hrun, ?_, fun scr q => ?_⟩
  · have hkeeps : Carried fun x y : State => y.frameScr = x.frameScr := ⟨fun _ => rfl, fun _ _ _ hxy hyz => hyz.trans hxy⟩
    have hline := carries_cfarRngLine hkeeps (fun x r d p => by unfold State.addRaw; split <;> rfl) src d u
    rw [hrun] at hline
    exact hline
  · rw [ht, hv]
    rfl

/-- A command that ends in a wait has not raised a Fatal, nor has it completed. -/
theorem eq_of_wait {p : Nat} {q : Pos} (h : (Host.Outcome.next { s with seq := .wait p q } : Host.Outcome State Fault Refusal)
      = .next { t with seq := .wait p q }) : t = { s with seq := t.seq } :=
  congrArg (fun u : State => { u with seq := t.seq }) (Host.Outcome.next.inj h).symm

/-- What the body of ANGLE.OBJ can do: raise a Fatal, write the estimate of a single antenna, or start the fetch and wait (R291). -/
theorem angleRun_cases (i : Nat) (s : State) :
    (∃ f, ∀ q k, angleRun i q k s = .error f s)
    ∨ (∃ est, ∀ q k, angleRun i q k s = (angleWrite i est >>= k) s
        ∧ ∀ l : Labels, angleRun i q k (l.on s) = (angleWrite i est >>= k) (l.on s))
    ∨ ∃ c, ∀ q k, ∀ l : Labels, angleRun i q k (l.on s) = .ok (.wait 10 q) ((l.on s).setChan 10 c) := by
  by_cases hi : i < s.numObjOut.toNat
  · by_cases hnv : s.nv = 1
    · exact .inr (.inl ⟨((0, rangeQ (estimateCfg s) (tabGet s.objOut i default).range.toNat), none), fun q k =>
        ⟨angleRun_single q k hi hnv, fun l => angleRun_single (s := l.on s) q k hi hnv⟩⟩)
    · cases hwin : s.winOk2D with
      | false => exact .inl ⟨_, fun q k => angleRun_noWindow q k hi hnv hwin⟩
      | true =>
        by_cases hx : (s.chan 10).xfer = .idle
        · exact .inr (.inr ⟨restarted (pipeline s.act 10) (BitVec.ofNat 32 (cubeCell s 0 (tabGet s.objOut i default).range.toNat 0))
            (BitVec.ofNat 32 (s.buf 12)), fun q k l => angleRun_fetch (s := l.on s) q k hi hnv hwin hx⟩)
        · exact .inl ⟨_, fun q k => angleRun_notIdle q k hi hnv hwin hx⟩
  · exact .inl ⟨_, fun q k => angleRun_badIndex q k (Nat.le_of_not_lt hi)⟩

/-- ANGLE.OBJ completed, without a fetch (R328). -/
theorem angleRun_of_done {i : Nat} (q : Pos) (r : Flow) (h : exec (.angleObj i) { s with mode := .configured } = .next (done t)) :
    ∃ u, angleRun i q (fun _ => pure r) s = .ok r u
      ∧ ∀ q, { u with seq := q } = { t with mode := s.mode, res0 := s.res0, irqStatus := s.irqStatus, seq := q } := by
  rw [exec_angleObj rfl] at h
  rcases angleRun_cases i { s with mode := .configured } with ⟨f, herror⟩ | ⟨est, hsingle⟩ | ⟨c, hfetch⟩
  · rw [settle, herror] at h
    exact absurd h not_halt_of_done
  · rw [settle_congr (hsingle _ _).1] at h
    obtain ⟨a, u, hrun, hu, ht⟩ := run_of_done (f := fun a w => { w with res0 := BitVec.ofNat 32 a }) (fun _ => blind_angleWrite i est)
      (fun _ _ => rfl) (commandLabels s) h
    refine ⟨u, ?_, fun q' => ?_⟩
    · have hself := (hsingle q (fun _ => pure r)).2 (labelsOf s)
      refine Eq.trans hself ?_
      rw [seqr_bind]
      exact congrArg (thenWith · fun _ => pure r) hrun
    · rw [ht, hu]
      rfl
  · have hwait := hfetch (.angle i) angleDone (commandLabels s)
    rw [settle, show angleRun i (.angle i) angleDone { s with mode := .configured } = _ from hwait] at h
    have hseq : Seq.wait 10 (.angle i) = Seq.idle := congrArg State.seq (Host.Outcome.next.inj h)
    exact nomatch hseq

/-- ANGLE.OBJ waiting for its fetch (R328). -/
theorem angleRun_of_wait {i : Nat} (q : Pos) (k : Nat → Seqr Flow)
    (h : exec (.angleObj i) { s with mode := .configured } = .next { t with seq := .wait 10 (.angle i) }) :
    ∃ u, angleRun i q k s = .ok (.wait 10 q) u ∧ ∀ q, { u with seq := q } = { t with mode := s.mode, seq := q } := by
  rw [exec_angleObj rfl] at h
  rcases angleRun_cases i { s with mode := .configured } with ⟨f, herror⟩ | ⟨est, hsingle⟩ | ⟨c, hfetch⟩
  · rw [settle, herror] at h
    have hseq : Seq.halt = Seq.wait 10 (.angle i) := congrArg State.seq (Host.Outcome.next.inj h)
    exact nomatch hseq
  · rw [settle_congr (hsingle _ _).1] at h
    have hseq : Seq.idle = Seq.wait 10 (.angle i) := congrArg State.seq (Host.Outcome.next.inj h)
    exact nomatch hseq
  · have hwait := hfetch (.angle i) angleDone (commandLabels s)
    rw [settle, show angleRun i (.angle i) angleDone { s with mode := .configured } = _ from hwait] at h
    refine ⟨_, hfetch q k (labelsOf s), fun q' => ?_⟩
    rw [eq_of_wait h]
    rfl

/-- ANGLE.OBJ after its wait (R328). -/
theorem angleFetched_of_command {i : Nat} (h : seqStep { s with seq := .pos (.angle i) } = .next (done t)) :
    ∃ a u, angleFetched i s = .ok a u ∧ ∀ q, { u with seq := q } = { t with res0 := s.res0, irqStatus := s.irqStatus, seq := q } := by
  obtain ⟨a, u, hrun, hu, ht⟩ := run_of_done (f := fun a w => { w with res0 := BitVec.ofNat 32 a }) (k := angleDone)
    (fun _ => blind_angleFetched i) (fun _ _ => rfl) ⟨s.mode, .pos (.angle i), s.arg, s.argPast, s.res0, s.res1, id⟩ h
  refine ⟨a, u, hrun, fun q => ?_⟩
  rw [ht, hu]
  rfl

/-- OUT.ASM raises `FRAME_DONE` or `FRAME_DROPPED` and clears nothing (R330). -/
def RaisesFrameBits (s t : State) : Prop := t.irqStatus = s.irqStatus ||| (t.irqStatus &&& 0x9)

theorem raisesFrameBits_of_eq (h : t.irqStatus = s.irqStatus) : RaisesFrameBits s t := by
  rw [RaisesFrameBits, h]
  ext b hb
  simp only [BitVec.getElem_or, BitVec.getElem_and]
  cases s.irqStatus[b] <;> rfl

theorem carried_raisesFrameBits : Carried RaisesFrameBits := by
  refine ⟨fun s => raisesFrameBits_of_eq rfl, fun s t u hst htu => ?_⟩
  rw [RaisesFrameBits] at *
  ext b hb
  have h1 := congrArg (·.getLsbD b) hst
  have h2 := congrArg (·.getLsbD b) htu
  simp only [BitVec.getLsbD_or, BitVec.getLsbD_and] at h1 h2
  simp only [← BitVec.getLsbD_eq_getElem, BitVec.getLsbD_or, BitVec.getLsbD_and]
  grind

theorem raisesFrameBits_or {v : Word} (h : t.irqStatus = s.irqStatus ||| (v &&& 0x9)) : RaisesFrameBits s t := by
  rw [RaisesFrameBits, h]
  ext b hb
  simp only [BitVec.getElem_or, BitVec.getElem_and]
  cases s.irqStatus[b] <;> cases v[b] <;> cases (0x9 : Word)[b] <;> rfl

theorem raisesFrameBits_assembleOutput : Carries RaisesFrameBits assembleOutput :=
  carries_assembleOutput carried_raisesFrameBits (fun _ _ => raisesFrameBits_of_eq rfl)
    (fun s a bs => raisesFrameBits_of_eq (wrBytes_irqStatus s .sequencer a bs)) (fun _ => raisesFrameBits_or (v := 0x8) rfl)
    (fun _ _ _ => raisesFrameBits_or (v := 0x1) rfl)

/-- `CMD_DONE` is not among those two bits. -/
theorem or_and_frameBits (w : Word) : (w ||| 0x4) &&& 0x9 = w &&& 0x9 := by
  have hapart : ∀ b : Fin 32, ((0x4 : Word)[b] && (0x9 : Word)[b]) = false := by decide
  ext b hb
  have hbit : ((0x4 : Word)[b] && (0x9 : Word)[b]) = false := hapart ⟨b, hb⟩
  rw [BitVec.getElem_and, BitVec.getElem_or, BitVec.getElem_and, Bool.and_or_distrib_right, hbit, Bool.or_false]

/-- OUT.ASM (R330). -/
theorem assembleOutput_of_command (h : exec .outAsm { s with mode := .configured } = .next (done t)) :
    ∃ u, assembleOutput s = .ok () u
      ∧ ∀ q, { u with seq := q } = { t with mode := s.mode, irqStatus := s.irqStatus ||| (t.irqStatus &&& 0x9), seq := q } := by
  have hblind (m : Mode) : Blind ⟨m, s.seq, s.arg, s.argPast, s.res0, s.res1, id⟩ assembleOutput := blind_assembleOutput fun _ _ => rfl
  have hcommand := hblind .configured s
  have hself := hblind s.mode s
  have hraise := raisesFrameBits_assembleOutput s
  rw [exec_configured _ rfl _ rfl, bodyOf, settle_thenDone, show assembleOutput { s with mode := .configured } = _ from hcommand] at h
  change assembleOutput s = _ at hself
  cases hrun : assembleOutput s with
  | error f u =>
    rw [hrun] at h
    exact absurd h not_halt_of_done
  | ok a u =>
    rw [hrun] at h hself hraise
    have ht := eq_of_done h
    have hu : u = _ := (EStateM.Result.ok.inj hself).2
    have hdone : u.irqStatus ||| 0x4 = t.irqStatus ||| 0x4 := congrArg State.irqStatus (Host.Outcome.next.inj h)
    have hbits : u.irqStatus &&& 0x9 = t.irqStatus &&& 0x9 := by
      rw [← or_and_frameBits u.irqStatus, hdone, or_and_frameBits]
    have hirq : u.irqStatus = s.irqStatus ||| (t.irqStatus &&& 0x9) := hbits ▸ hraise
    refine ⟨u, rfl, fun q => ?_⟩
    rw [← hirq, ht, hu]
    rfl

end

/-! ## The steps of the sequence -/

/-- The least channel of the sequence that is not idle (R215). -/
theorem leastPending_eq_some {s : State} {p : Nat} (hlo : 4 ≤ p) (hhi : p < 11) (hbusy : (s.chan p).xfer ≠ .idle)
    (hleast : ∀ q, 4 ≤ q → q < p → (s.chan q).xfer = .idle) :
    s.leastChan (fun c => !c.xfer.isIdle) [4, 5, 6, 7, 8, 9, 10] = some p := by
  have hrange : [4, 5, 6, 7, 8, 9, 10] = List.range' 4 7 := rfl
  rw [State.leastChan, hrange, List.find?_range'_eq_some]
  refine ⟨by rw [Dma.isIdle_eq_false hbusy]; rfl, by simp; omega, fun q hq hqp => ?_⟩
  rw [hleast q hq hqp]
  rfl

theorem mem_frameChannels (p : Nat) : p ∈ [4, 5, 6, 7, 8, 9, 10] ↔ 4 ≤ p ∧ p < 11 := by
  simp only [List.mem_cons, List.not_mem_nil, or_false]
  omega

/-- The per-frame state cleared (R322 step 1). -/
def frameCleared (s : State) : State :=
  { s with
    bmpWord := Vector.replicate 32 0, bmpCursor := 0, numRawObj := 0, numObjOut := 0
    window := { s.window with raw := false, objs := false } }

theorem framePhase_s1 (byCmd : Bool) (s : State) : framePhase .s1 byCmd s =
    (programPipeline [4, 5, 6, 7, 8, 9, 10] >>= fun _ => pure (.pos (.frame .s2start byCmd)) : Seqr Flow) (frameCleared s) := rfl

theorem framePhase_s2start (byCmd : Bool) (s : State) : framePhase .s2start byCmd s =
    (if 0 < s.nr * s.nv then dopFetch s 0 >>= fun _ => pure (.pos (.frame (.s2 0) byCmd)) else pure (.pos (.frame .s3 byCmd)) : Seqr Flow) s := rfl

/-- The second wait of step 3. -/
def secondRowDrained (byCmd : Bool) : Seqr Flow := awaitThen 7 (.frame .s4start byCmd) (pure (.pos (.frame .s4start byCmd)))

theorem framePhase_s3 (byCmd : Bool) (s : State) :
    framePhase .s3 byCmd s = awaitThen 6 (.frame .s3second byCmd) (secondRowDrained byCmd) s := rfl

theorem framePhase_s3second (byCmd : Bool) (s : State) : framePhase .s3second byCmd s = secondRowDrained byCmd s := rfl

theorem framePhase_s4start (byCmd : Bool) (s : State) : framePhase .s4start byCmd s =
    (if 0 < s.bmpCount then bmpAdvance >>= fun d => lineFetch s 0 d >>= fun _ =>
        modify (fun t => { t with frameScr := { t.frameScr with lines := s.bmpCount, dcur := d } }) >>= fun _ =>
          pure (.pos (.frame (.s4 0) byCmd))
      else pure (.pos (.frame .s5 byCmd)) : Seqr Flow) s := rfl

/-- A line and the way on (R326). -/
def lineStep (lines j : Nat) (byCmd : Bool) : Seqr Flow :=
  lineItem j >>= fun _ => pure (.pos (.frame (if j + 1 < lines then .s4 (j + 1) else .s5) byCmd))

theorem framePhase_s4 (j : Nat) (byCmd : Bool) (s : State) : framePhase (.s4 j) byCmd s =
    awaitThen (8 + j % 2) (.frame (.s4body j) byCmd) (lineStep s.frameScr.lines j byCmd) s := rfl

theorem framePhase_s4body (j : Nat) (byCmd : Bool) (s : State) : framePhase (.s4body j) byCmd s = lineStep s.frameScr.lines j byCmd s := rfl

theorem framePhase_s5 (byCmd : Bool) (s : State) :
    framePhase .s5 byCmd s = (groupRun >>= fun _ => pure (.pos (.frame .s6start byCmd)) : Seqr Flow) s := rfl

/-- The way on after object `i` (R328). -/
def nextObject (n0 i : Nat) (byCmd : Bool) : Flow := .pos (.frame (if i + 1 < n0 then .s6 (i + 1) else .s7) byCmd)

theorem framePhase_s6 (i : Nat) (byCmd : Bool) (s : State) : framePhase (.s6 i) byCmd s =
    angleRun i (.frame (.s6body i) byCmd) (fun _ => pure (nextObject s.frameScr.n0 i byCmd)) s := rfl

theorem framePhase_s6body (i : Nat) (byCmd : Bool) (s : State) : framePhase (.s6body i) byCmd s =
    (angleFetched i >>= fun _ => pure (nextObject s.frameScr.n0 i byCmd)) s := rfl

theorem framePhase_s7 (byCmd : Bool) (s : State) :
    framePhase .s7 byCmd s = (assembleOutput >>= fun _ => pure (.pos (.frame .s8 byCmd)) : Seqr Flow) s := rfl

theorem buf_lt (s : State) (k : Nat) : s.buf k < 2 ^ 32 := (tabGet s.act.bufBase k 0).isLt

section
variable {s : State} {byCmd : Bool}

theorem settle_secondRowDrained : ((s.chan 7).xfer.isDone = false →
      settle (secondRowDrained byCmd) s = { s with seq := .wait 7 (.frame .s4start byCmd) })
    ∧ ((s.chan 7).xfer.isDone = true → settle (secondRowDrained byCmd) s = { freed s 7 with seq := .pos (.frame .s4start byCmd) }) :=
  ⟨settle_awaitThen_wait (by decide) _, settle_awaitThen_done (by decide) _⟩

/-- The next set bit, and the cursor past it (R154). -/
theorem bmpAdvance_ok {d : Nat} (h : NextBit s d) : bmpAdvance s = .ok d { s with bmpCursor := BitVec.ofNat 11 (d + 1) } := by
  rw [bmpAdvance, seqr_bind, seqr_get, thenWith_ok, bmpFind_eq_some_iff.mpr h]
  rfl

theorem lineFetch_ok {j d : Nat} (hconf : (s.chan (8 + j % 2)).configured = true) (hidle : (s.chan (8 + j % 2)).xfer = .idle) (c : BitVec 11) :
    lineFetch s j d { s with bmpCursor := c } = .ok () { s.setChan (8 + j % 2) (restarted (s.chan (8 + j % 2))
      (BitVec.ofNat 32 (s.buf 5 + 2 * d)) (BitVec.ofNat 32 (s.buf (10 + j % 2)))) with bmpCursor := c } := by
  have haddr : s.detAddr 0 d = s.buf 5 + 2 * d := by rw [State.detAddr, Nat.zero_mul, Nat.zero_add]
  rw [lineFetch, haddr, dmaRetrig_ok (s := { s with bmpCursor := c }) _ _ (by omega) hconf hidle]
  rfl

/-- A line, its prefetch made (R326). -/
theorem lineItem_ok {j d : Nat} {u v : State} {a : Nat × Nat} (hnext : nextLine s j s = .ok d u)
    (hline : cfarRngLine (s.buf (10 + j % 2)) s.frameScr.dcur u = .ok a v) :
    lineItem j s = .ok () { v with frameScr := { v.frameScr with dcur := d } } := by
  rw [lineItem_eq, seqr_bind, seqr_get, thenWith_ok, seqr_bind, hnext, thenWith_ok, seqr_bind, hline]
  rfl

/-- A line, given what its body does as a command (R326). -/
theorem settle_lineStep {j d : Nat} {u t : State} {chans : Vector Chan 12} {cursor : BitVec 11}
    (hu : u = { s with dma := chans, bmpCursor := cursor }) (hnext : nextLine s j s = .ok d u)
    (h : exec (.cfarRng s.frameScr.dcur) { u with
      mode := .configured, arg := tabSet s.arg 0 (BitVec.ofNat 32 (s.buf (10 + j % 2))), argPast := Vector.replicate 6 [] } = .next (done t)) :
    settle (framePhase (.s4body j) byCmd) s = { t with
      mode := s.mode, arg := s.arg, argPast := s.argPast, res0 := s.res0, res1 := s.res1, irqStatus := s.irqStatus
      frameScr := { s.frameScr with dcur := d }
      seq := .pos (.frame (if j + 1 < s.frameScr.lines then .s4 (j + 1) else .s5) byCmd) } := by
  subst hu
  obtain ⟨a, v, hline, hscr, hv⟩ := cfarRngLine_of_command (u := { s with dma := chans, bmpCursor := cursor }) (buf_lt s (10 + j % 2)) h
  have hphase : framePhase (.s4body j) byCmd s = .ok (.pos (.frame (if j + 1 < s.frameScr.lines then .s4 (j + 1) else .s5) byCmd))
      { v with frameScr := { v.frameScr with dcur := d } } := by
    rw [framePhase_s4body, lineStep, seqr_bind, lineItem_ok hnext hline]
    rfl
  rw [settle_pos hphase, hscr]
  exact hv _ _

theorem nextBit_counted {d : Nat} (h : NextBit s d) : 0 < s.bmpCount := by
  obtain ⟨-, hsize, hbit, -⟩ := h
  rw [bmpCount_eq]
  exact List.length_pos_of_mem (List.mem_filter.mpr ⟨List.mem_range.mpr hsize, hbit⟩)

end

/-- Settles O54: step by step, the bodies by the commands they are the bodies of. -/
theorem frameSequenceSteps : Obligations.FrameSequenceSteps := by
  intro s byCmd go free started body
  refine ⟨fun hm hwin => ?procNoWindow, fun hm hwin => ?proc, fun hseq => ⟨fun hidle => ?s1, fun p hlo hhi hbusy hleast => ?s1busy⟩,
    fun hseq => ⟨fun hnone => ?s2none, fun hsome hfree => ?s2some⟩,
    fun hseq => ⟨fun hd => ?s3wait, fun hd hd' => ?s3first, fun hd hd' => ?s3both⟩,
    fun hseq => ⟨fun hd => ?s3secondWait, fun hd => ?s3second⟩, fun hseq => ⟨fun hnone => ?s4none, fun d hbit hfree => ?s4some⟩,
    fun j hseq => ⟨fun hd => ?s4wait, fun hd => ?s4done⟩, fun j hseq d u t hnext hbody => ?s4body, fun hseq t hbody => ?s5,
    fun hseq => ?s6start, fun i => ⟨fun hseq t => ⟨fun hbody => ?s6done, fun hwait => ?s6wait⟩, fun hseq t hbody => ?s6body⟩,
    fun hseq t hbody => ?s7, fun hseq => ?s8⟩
  case procNoWindow =>
    have hrun : bodyOf .frameProc s = .error ⟨.cfgWindow, 1⟩ s := by
      rw [bodyOf, frameProcBody, seqr_bind, seqr_get, thenWith_ok, hwin]
      rfl
    rw [exec_configured _ rfl _ hm, settle_error hrun]
    rfl
  case proc =>
    have hrun : bodyOf .frameProc s = .ok (.pos (.frame .s1 true)) { s with frameToken := true, before := tablesOf s } := by
      rw [bodyOf, frameProcBody, seqr_bind, seqr_get, thenWith_ok, hwin]
      rfl
    rw [exec_configured _ rfl _ hm, settle_pos hrun]
  all_goals rw [seqStep_of_pos hseq, runPos]
  case s1 =>
    have hleast : (frameCleared s).leastChan (fun c => !c.xfer.isIdle) [4, 5, 6, 7, 8, 9, 10] = none :=
      leastPending_eq_none (s := s) fun p hp => (isIdle_iff _).mpr (hidle p ((mem_frameChannels p).mp hp).1 ((mem_frameChannels p).mp hp).2)
    have hphase := framePhase_s1 byCmd s
    rw [seqr_bind, programPipeline_eq, hleast, thenWith_ok, program_range _ mem_frameChannels] at hphase
    rw [settle_pos hphase]
    rfl
  case s1busy =>
    have hsome : (frameCleared s).leastChan (fun c => !c.xfer.isIdle) [4, 5, 6, 7, 8, 9, 10] = some p :=
      leastPending_eq_some (s := s) hlo hhi hbusy hleast
    have hphase := framePhase_s1 byCmd s
    rw [seqr_bind, programPipeline_eq, hsome] at hphase
    exact congrArg _ (settle_error hphase)
  case s2none => rw [settle_congr (framePhase_s2start byCmd s), if_neg (by omega)]; rfl
  case s2some =>
    have hcell : s.cubeAddr (0 % s.nv) (0 / s.nv) 0 = s.buf 4 := by
      rw [State.cubeAddr, Nat.zero_mod, Nat.zero_div]
      omega
    have hphase : framePhase .s2start byCmd s = .ok (.pos (.frame (.s2 0) byCmd)) (started s 4 (s.buf 4) (s.buf 6)) := by
      rw [framePhase_s2start, if_pos hsome, seqr_bind, dopFetch, hcell, dmaRetrig_ok _ _ (by decide) hfree.1 hfree.2]
      rfl
    rw [settle_pos hphase]
  case s3wait => rw [settle_congr (framePhase_s3 byCmd s), settle_awaitThen_wait (by decide) _ hd]
  case s3first =>
    rw [settle_congr (framePhase_s3 byCmd s), settle_awaitThen_done (by decide) _ hd]
    exact congrArg _ (settle_secondRowDrained.1 ((congrArg (fun c : Chan => c.xfer.isDone) (chan_freed_ne (by decide) (by decide))).trans hd'))
  case s3both =>
    rw [settle_congr (framePhase_s3 byCmd s), settle_awaitThen_done (by decide) _ hd]
    exact congrArg _ (settle_secondRowDrained.2 ((congrArg (fun c : Chan => c.xfer.isDone) (chan_freed_ne (by decide) (by decide))).trans hd'))
  case s3secondWait => rw [settle_congr (framePhase_s3second byCmd s), settle_secondRowDrained.1 hd]
  case s3second => rw [settle_congr (framePhase_s3second byCmd s), settle_secondRowDrained.2 hd]
  case s4none => rw [settle_congr (framePhase_s4start byCmd s), if_neg (by rw [bmpCount_eq, hnone]; decide)]; rfl
  case s4some =>
    have hphase := framePhase_s4start byCmd s
    rw [if_pos (nextBit_counted hbit), seqr_bind, bmpAdvance_ok hbit, thenWith_ok, seqr_bind, lineFetch_ok hfree.1 hfree.2, thenWith_ok,
      seqr_bind, seqr_modify, thenWith_ok, bmpCount_eq] at hphase
    rw [settle_pos hphase]
    rfl
  case s4wait => rw [settle_congr (framePhase_s4 j byCmd s), settle_awaitThen_wait (by omega) _ hd]
  case s4done =>
    rw [settle_congr (framePhase_s4 j byCmd s), settle_awaitThen_done (by omega) _ hd, seqStep_of_pos (q := .frame (.s4body j) byCmd) rfl,
      runPos, settle_congr (framePhase_s4body j byCmd _)]
    exact congrArg Host.Outcome.next (settle_seq (fun _ => blind_bind (blind_lineItem j) fun _ => blind_pure _) (freed s (8 + j % 2)) _).symm
  case s4body =>
    rcases hnext with ⟨hlt, hbit, ⟨hconf, hidle⟩, hu⟩ | ⟨hge, hd, hu⟩
    · have hline : nextLine s j s = .ok d u := by
        rw [nextLine, if_pos hlt, seqr_bind, bmpAdvance_ok hbit, thenWith_ok, seqr_bind, lineFetch_ok hconf hidle, hu]
        rfl
      have hsame : u = { s with dma := u.dma, bmpCursor := u.bmpCursor } := by
        rw [hu]
        rfl
      exact congrArg Host.Outcome.next (settle_lineStep (t := t) hsame hline hbody)
    · have hline : nextLine s j s = .ok d u := by
        rw [nextLine, if_neg (by omega), hd, hu]
        rfl
      have hsame : u = { s with dma := u.dma, bmpCursor := u.bmpCursor } := by rw [hu]
      exact congrArg Host.Outcome.next (settle_lineStep (t := t) hsame hline hbody)
  case s5 =>
    obtain ⟨u, hrun, hu⟩ := groupRun_of_command hbody
    have hphase : framePhase .s5 byCmd s = .ok (.pos (.frame .s6start byCmd)) u := by
      rw [framePhase_s5, seqr_bind, hrun]
      rfl
    rw [settle_pos hphase, hu]
  case s6start =>
    have hphase : framePhase .s6start byCmd s = .ok (.pos (.frame (if 0 < s.numObjOut.toNat then .s6 0 else .s7) byCmd))
      { s with frameScr := { s.frameScr with n0 := s.numObjOut.toNat } } := rfl
    have hnext : (if 0 < s.numObjOut.toNat then FramePos.s6 0 else .s7) = if s.numObjOut.toNat = 0 then .s7 else .s6 0 := by
      split_ifs <;> first | rfl | omega
    rw [settle_pos hphase, hnext]
  case s6done =>
    obtain ⟨u, hrun, hu⟩ := angleRun_of_done (.frame (.s6body i) byCmd) (nextObject s.frameScr.n0 i byCmd) hbody
    rw [settle_pos ((framePhase_s6 i byCmd s).trans hrun), hu]
  case s6wait =>
    obtain ⟨u, hrun, hu⟩ := angleRun_of_wait (.frame (.s6body i) byCmd) (fun _ => pure (nextObject s.frameScr.n0 i byCmd)) hwait
    rw [settle_wait ((framePhase_s6 i byCmd s).trans hrun), hu]
  case s6body =>
    obtain ⟨a, u, hrun, hu⟩ := angleFetched_of_command hbody
    have hphase : framePhase (.s6body i) byCmd s = .ok (nextObject s.frameScr.n0 i byCmd) u := by
      rw [framePhase_s6body, seqr_bind, hrun]
      rfl
    rw [settle_pos hphase, hu]
  case s7 =>
    obtain ⟨u, hrun, hu⟩ := assembleOutput_of_command hbody
    have hphase : framePhase .s7 byCmd s = .ok (.pos (.frame .s8 byCmd)) u := by
      rw [framePhase_s7, seqr_bind, hrun]
      rfl
    rw [settle_pos hphase, hu]
  case s8 => cases byCmd <;> rfl

end Sys2Proof.Proofs.FrameSequence
end
